-- ==== Sys2Proof/Word.lean ====
section
/-! DEFINITION. The word types of the Pharos-GB panel relay block (spec 00_scope.md R10: every value
is unsigned; the block has no signed arithmetic). -/

namespace Sys2Proof

/-- A 32-bit register word: what one register access moves (20_memory.md R72). -/
abbrev Word := BitVec 32

/-- A 16-bit quantity: a coordinate, a bound, a size, a packed colour or a register offset
(30_encoding.md R106, R109). -/
abbrev Half := BitVec 16

/-- An 8-bit quantity: a wire byte, a fault code or an indexed pixel value (30_encoding.md R105, R107). -/
abbrev Byte := BitVec 8

end Sys2Proof
end

