-- ==== Sys2Proof/Config.lean ====
section
/-! DEFINITION. The implementation parameters of the block (spec 00_scope.md R7, R8).

R7 says that the model takes them as arguments, so they are a record of plain data that the state
carries and that no step changes (log 7). The parameters R7 leaves OPEN come, in the state after
reset, from constants without a body (log 6): no proof can use a value of theirs. -/

namespace Sys2Proof

/-- The parameters of 00_scope.md R7. -/
structure Params where
  /-- PANEL_W: panel columns addressable by CASET. -/
  panelW : Nat
  /-- PANEL_H: panel rows addressable by RASET. -/
  panelH : Nat
  /-- LINE_W: elements in the line buffer. -/
  lineW : Nat
  /-- SRC_H: source rows per frame. -/
  srcH : Nat
  /-- MADCTL_INIT: the memory-access/orientation control byte sent at init. -/
  madctlInit : Byte
  /-- COLMOD_16BPP: the parameter byte of COLMOD for 16 bits per pixel. -/
  colmod16bpp : Byte
  /-- SLPIN_SETTLE_MS: settle after sleep-in, in milliseconds. -/
  slpinSettleMs : Nat
  /-- RCV_RESET_W: columns of the panel's own window after its reset. -/
  rcvResetW : Nat
  /-- RCV_RESET_H: rows of the panel's own window after its reset. -/
  rcvResetH : Nat
  /-- COLMOD_RESET: the panel's colour mode after its own reset (41_panel_receiver.md R204). -/
  colmodReset : Byte
  /-- P_BASE: host bus address of the P-port window. No rule of the block reads it (20_memory.md R71). -/
  pBase : Nat
  /-- C_BASE: host bus address of the C-port window. No rule of the block reads it. -/
  cBase : Nat
  /-- SPI_DIV: SCK period in block clock cycles. No rule depends on it (40_panellink.md R141). -/
  spiDiv : Nat
  /-- WAIT_SCALE: the milliseconds that a Wait(n) lasts beyond its minimum n. No rule depends on it. -/
  waitExtraMs : Nat
  deriving DecidableEq, Repr, Inhabited

/-- X0, the first column of the centered display region (R7). -/
def Params.x0 (p : Params) : Nat := (p.panelW - p.lineW) / 2

/-- Y0, the first row of the centered display region (R7). -/
def Params.y0 (p : Params) : Nat := (p.panelH - p.srcH) / 2

/-- The bounds that R7 puts on the parameters. RCV_RESET_W and RCV_RESET_H, which R204 sends through
16-bit window registers, are bounded by those registers' width (log 26). -/
abbrev Params.Legal (p : Params) : Prop :=
  1 ≤ p.panelW ∧ p.panelW ≤ 65536 ∧ 1 ≤ p.panelH ∧ p.panelH ≤ 65536 ∧
  1 ≤ p.lineW ∧ p.lineW ≤ p.panelW ∧ p.lineW ≤ 1024 ∧ 1 ≤ p.srcH ∧ p.srcH ≤ p.panelH ∧
  1 ≤ p.rcvResetW ∧ p.rcvResetW ≤ 65536 ∧ 1 ≤ p.rcvResetH ∧ p.rcvResetH ≤ 65536

namespace Config

/-- LINE_W of the product: "160 indexed values" (R7). -/
def lineWidth : Nat := 160

/-- What R7 leaves OPEN, before it is brought inside R7's bounds. DESIGN CHOICE (log 6). -/
structure OpenChoice where
  /-- chooses PANEL_W -/
  width : Nat
  /-- chooses PANEL_H -/
  height : Nat
  /-- chooses SRC_H -/
  rows : Nat
  /-- MADCTL_INIT -/
  madctl : Byte
  /-- COLMOD_RESET -/
  colmodReset : Byte
  /-- P_BASE -/
  pBase : Nat
  /-- C_BASE -/
  cBase : Nat
  /-- SPI_DIV -/
  spiDiv : Nat
  /-- WAIT_SCALE -/
  waitExtraMs : Nat
  deriving DecidableEq, Repr, Inhabited

/-- The implementer's choice of every OPEN parameter: a constant without a body, so that nothing can
be proved of its value (log 6). -/
opaque openChoice : OpenChoice

/-- The parameters that a choice gives: every choice is brought inside the bounds of R7, every legal
geometry with LINE_W = 160 is reached by some choice, and the other parameters have R7's defaults
(log 6). -/
def ofChoice (c : OpenChoice) : Params :=
  let w := lineWidth + c.width % (65536 - lineWidth + 1)
  let h := 1 + c.height % 65536
  { panelW := w
    panelH := h
    lineW := lineWidth
    srcH := 1 + c.rows % h
    madctlInit := c.madctl
    colmod16bpp := 0x55
    slpinSettleMs := 0
    rcvResetW := w
    rcvResetH := h
    colmodReset := c.colmodReset
    pBase := c.pBase
    cBase := c.cBase
    spiDiv := c.spiDiv
    waitExtraMs := c.waitExtraMs }

/-- The parameters of the machine after reset. -/
def board : Params := ofChoice openChoice

/-- Configuration T (tiny) of 95_test_vectors.md and 92_eei_decisions.md D42. Not normative. -/
def tiny : Params :=
  { panelW := 8, panelH := 6, lineW := 4, srcH := 2, madctlInit := 0x00, colmod16bpp := 0x55
    slpinSettleMs := 0, rcvResetW := 8, rcvResetH := 6, colmodReset := 0x66
    pBase := 0, cBase := 0x10000, spiDiv := 2, waitExtraMs := 0 }

/-- Configuration G (GB-like) of 95_test_vectors.md and 92_eei_decisions.md D42. Not normative. -/
def gbLike : Params :=
  { panelW := 320, panelH := 240, lineW := 160, srcH := 144, madctlInit := 0x00, colmod16bpp := 0x55
    slpinSettleMs := 0, rcvResetW := 320, rcvResetH := 240, colmodReset := 0x66
    pBase := 0, cBase := 0x10000, spiDiv := 2, waitExtraMs := 0 }

end Config

end Sys2Proof
end

