-- ==== Sys2Proof/Syntax.lean ====
section
/-! DEFINITION. The operations of the block, one constructor for each row of spec/opcode_table.json.

The block executes no instruction stream: its "instructions" are the register accesses on its two
ports (format FA), the command words its dispatcher pops (format FC) and the panel wire commands its
engine emits and the reference receiver takes (format FW); spec 30_encoding.md R100 to R112.

A write access carries its 32-bit data word, also where the register ignores some or all of it (R100).
A read access has no operand: the word it returns is its result. -/

namespace Sys2Proof

/-- One operation of the opcode table. -/
inductive Instr where
  /-- R.P_STATUS: read at P-port offset 0x0000 (30_encoding.md R110). -/
  | rPStatus
  /-- W.P_STATUS: write at P-port offset 0x0000 (30_encoding.md R110). -/
  | wPStatus (v : Word)
  /-- R.P_BUSY: read at P-port offset 0x0004 (30_encoding.md R110). -/
  | rPBusy
  /-- W.P_BUSY: write at P-port offset 0x0004 (30_encoding.md R110). -/
  | wPBusy (v : Word)
  /-- R.P_MBOX_TX: read at P-port offset 0x0008 (30_encoding.md R110). -/
  | rPMboxTx
  /-- W.P_MBOX_TX: write at P-port offset 0x0008 (30_encoding.md R110). -/
  | wPMboxTx (v : Word)
  /-- R.P_MBOX_RX: read at P-port offset 0x000C (30_encoding.md R110). -/
  | rPMboxRx
  /-- W.P_MBOX_RX: write at P-port offset 0x000C (30_encoding.md R110). -/
  | wPMboxRx (v : Word)
  /-- R.P_FAULT: read at P-port offset 0x0010 (30_encoding.md R110). -/
  | rPFault
  /-- W.P_FAULT: write at P-port offset 0x0010 (30_encoding.md R110). -/
  | wPFault (v : Word)
  /-- R.PALETTE on the P-port: read at offset 0x0100 + 4k (30_encoding.md R110). -/
  | rPPalette (k : BitVec 4)
  /-- W.PALETTE on the P-port: write at offset 0x0100 + 4k (30_encoding.md R110). -/
  | wPPalette (k : BitVec 4) (v : Word)
  /-- R.LINEBUF on the P-port: read at offset 0x1000 + 4i (30_encoding.md R110). -/
  | rPLinebuf (i : BitVec 10)
  /-- W.LINEBUF on the P-port: write at offset 0x1000 + 4i (30_encoding.md R110). -/
  | wPLinebuf (i : BitVec 10) (v : Word)
  /-- R.C_STATUS: read at C-port offset 0x0000 (30_encoding.md R111). -/
  | rCStatus
  /-- W.C_STATUS: write at C-port offset 0x0000 (30_encoding.md R111). -/
  | wCStatus (v : Word)
  /-- R.C_BUSY_CLR: read at C-port offset 0x0004 (30_encoding.md R111). -/
  | rCBusyClr
  /-- W.C_BUSY_CLR: write at C-port offset 0x0004 (30_encoding.md R111). -/
  | wCBusyClr (v : Word)
  /-- R.C_MBOX_RX: read at C-port offset 0x0008 (30_encoding.md R111). -/
  | rCMboxRx
  /-- W.C_MBOX_RX: write at C-port offset 0x0008 (30_encoding.md R111). -/
  | wCMboxRx (v : Word)
  /-- R.C_MBOX_TX: read at C-port offset 0x000C (30_encoding.md R111). -/
  | rCMboxTx
  /-- W.C_MBOX_TX: write at C-port offset 0x000C (30_encoding.md R111). -/
  | wCMboxTx (v : Word)
  /-- R.C_FAULT: read at C-port offset 0x0010 (30_encoding.md R111). -/
  | rCFault
  /-- W.C_FAULT: write at C-port offset 0x0010 (30_encoding.md R111). -/
  | wCFault (v : Word)
  /-- R.C_CTRL: read at C-port offset 0x0014 (30_encoding.md R111). -/
  | rCCtrl
  /-- W.C_CTRL: write at C-port offset 0x0014 (30_encoding.md R111). -/
  | wCCtrl (v : Word)
  /-- R.C_INIT: read at C-port offset 0x0040 (30_encoding.md R111). -/
  | rCInit
  /-- W.C_INIT: write at C-port offset 0x0040 (30_encoding.md R111). -/
  | wCInit (v : Word)
  /-- R.C_WIN_COL: read at C-port offset 0x0044 (30_encoding.md R111). -/
  | rCWinCol
  /-- W.C_WIN_COL: write at C-port offset 0x0044 (30_encoding.md R111). -/
  | wCWinCol (v : Word)
  /-- R.C_WIN_ROW: read at C-port offset 0x0048 (30_encoding.md R111). -/
  | rCWinRow
  /-- W.C_WIN_ROW: write at C-port offset 0x0048 (30_encoding.md R111). -/
  | wCWinRow (v : Word)
  /-- R.C_WIN_APPLY: read at C-port offset 0x004C (30_encoding.md R111). -/
  | rCWinApply
  /-- W.C_WIN_APPLY: write at C-port offset 0x004C (30_encoding.md R111). -/
  | wCWinApply (v : Word)
  /-- R.C_SET_ADDRESS: read at C-port offset 0x0050 (30_encoding.md R111). -/
  | rCSetAddress
  /-- W.C_SET_ADDRESS: write at C-port offset 0x0050 (30_encoding.md R111). -/
  | wCSetAddress (v : Word)
  /-- R.C_STREAM_BEGIN: read at C-port offset 0x0054 (30_encoding.md R111). -/
  | rCStreamBegin
  /-- W.C_STREAM_BEGIN: write at C-port offset 0x0054 (30_encoding.md R111). -/
  | wCStreamBegin (v : Word)
  /-- R.C_PIXEL: read at C-port offset 0x0058 (30_encoding.md R111). -/
  | rCPixel
  /-- W.C_PIXEL: write at C-port offset 0x0058 (30_encoding.md R111). -/
  | wCPixel (v : Word)
  /-- R.C_STREAM_END: read at C-port offset 0x005C (30_encoding.md R111). -/
  | rCStreamEnd
  /-- W.C_STREAM_END: write at C-port offset 0x005C (30_encoding.md R111). -/
  | wCStreamEnd (v : Word)
  /-- R.C_FILL_COLOR: read at C-port offset 0x0060 (30_encoding.md R111). -/
  | rCFillColor
  /-- W.C_FILL_COLOR: write at C-port offset 0x0060 (30_encoding.md R111). -/
  | wCFillColor (v : Word)
  /-- R.C_FILL_XY: read at C-port offset 0x0064 (30_encoding.md R111). -/
  | rCFillXY
  /-- W.C_FILL_XY: write at C-port offset 0x0064 (30_encoding.md R111). -/
  | wCFillXY (v : Word)
  /-- R.C_FILL_WH: read at C-port offset 0x0068 (30_encoding.md R111). -/
  | rCFillWH
  /-- W.C_FILL_WH: write at C-port offset 0x0068 (30_encoding.md R111). -/
  | wCFillWH (v : Word)
  /-- R.C_FILL_GO: read at C-port offset 0x006C (30_encoding.md R111). -/
  | rCFillGo
  /-- W.C_FILL_GO: write at C-port offset 0x006C (30_encoding.md R111). -/
  | wCFillGo (v : Word)
  /-- R.C_INVERT: read at C-port offset 0x0070 (30_encoding.md R111). -/
  | rCInvert
  /-- W.C_INVERT: write at C-port offset 0x0070 (30_encoding.md R111). -/
  | wCInvert (v : Word)
  /-- R.C_POWER: read at C-port offset 0x0074 (30_encoding.md R111). -/
  | rCPower
  /-- W.C_POWER: write at C-port offset 0x0074 (30_encoding.md R111). -/
  | wCPower (v : Word)
  /-- R.C_BACKLIGHT: read at C-port offset 0x0078 (30_encoding.md R111). -/
  | rCBacklight
  /-- W.C_BACKLIGHT: write at C-port offset 0x0078 (30_encoding.md R111). -/
  | wCBacklight (v : Word)
  /-- R.C_IDLE: read at C-port offset 0x007C (30_encoding.md R111). -/
  | rCIdle
  /-- W.C_IDLE: write at C-port offset 0x007C (30_encoding.md R111). -/
  | wCIdle (v : Word)
  /-- R.C_DRAW_LINE: read at C-port offset 0x0080 (30_encoding.md R111). -/
  | rCDrawLine
  /-- W.C_DRAW_LINE: write at C-port offset 0x0080 (30_encoding.md R111). -/
  | wCDrawLine (v : Word)
  /-- R.PALETTE on the C-port: read at offset 0x0100 + 4k (30_encoding.md R111). -/
  | rCPalette (k : BitVec 4)
  /-- W.PALETTE on the C-port: write at offset 0x0100 + 4k (30_encoding.md R111). -/
  | wCPalette (k : BitVec 4) (v : Word)
  /-- R.LINEBUF on the C-port: read at offset 0x1000 + 4i (30_encoding.md R111). -/
  | rCLinebuf (i : BitVec 10)
  /-- W.LINEBUF on the C-port: write at offset 0x1000 + 4i (30_encoding.md R111). -/
  | wCLinebuf (i : BitVec 10) (v : Word)
  /-- NOP: the command word 0x00000000 (30_encoding.md R103). -/
  | nop
  /-- DRAW_LINE(row): tag 0x01, ROW = w[15:0] (30_encoding.md R103). -/
  | drawLine (row : Half)
  /-- SET_IDLE(mode): tag 0x02, INVERT = w[1], IDLE = w[0] (30_encoding.md R103). -/
  | setIdle (invert : Bool) (idle : Bool)
  /-- SET_PIXEL(value): tag 0x03, COLOR = w[15:0] (30_encoding.md R103). -/
  | setPixel (color : Half)
  /-- A reserved command word: any word that none of the four rows above matches (30_encoding.md R104). -/
  | reservedCommand (w : Word)
  /-- SWRESET: wire command byte 0x01 (41_panel_receiver.md R200). -/
  | swreset
  /-- SLPIN: wire command byte 0x10 (41_panel_receiver.md R200). -/
  | slpin
  /-- SLPOUT: wire command byte 0x11 (41_panel_receiver.md R200). -/
  | slpout
  /-- NORON: wire command byte 0x13 (41_panel_receiver.md R200). -/
  | noron
  /-- INVOFF: wire command byte 0x20 (41_panel_receiver.md R200). -/
  | invoff
  /-- INVON: wire command byte 0x21 (41_panel_receiver.md R200). -/
  | invon
  /-- DISPOFF: wire command byte 0x28 (41_panel_receiver.md R200). -/
  | dispoff
  /-- DISPON: wire command byte 0x29 (41_panel_receiver.md R200). -/
  | dispon
  /-- CASET: wire command byte 0x2A (41_panel_receiver.md R200). -/
  | caset
  /-- RASET: wire command byte 0x2B (41_panel_receiver.md R200). -/
  | raset
  /-- RAMWR: wire command byte 0x2C (41_panel_receiver.md R200). -/
  | ramwr
  /-- MADCTL: wire command byte 0x36 (41_panel_receiver.md R200). -/
  | madctl
  /-- IDMOFF: wire command byte 0x38 (41_panel_receiver.md R200). -/
  | idmoff
  /-- IDMON: wire command byte 0x39 (41_panel_receiver.md R200). -/
  | idmon
  /-- COLMOD: wire command byte 0x3A (41_panel_receiver.md R200). -/
  | colmod
  deriving DecidableEq, Repr

end Sys2Proof
end

