-- ==== Sys2Proof/WellFormed.lean ====
section
/-! DEFINITION. Which terms of `Instr` stand for an operation of the table.

Every field of an `Instr` has the width of its encoded field, so only two checks are left: a LINEBUF
index must be below LINE_W (30_encoding.md R101), and a reserved command word must match no other row
of the table (30_encoding.md R104). -/

namespace Sys2Proof

/-- R103's rows as the table fixes their bits: NOP, DRAW_LINE, SET_IDLE or SET_PIXEL. -/
def isNamedCommand (w : Word) : Bool :=
  w = 0x00000000#32 || w.extractLsb' 16 16 = 0x0100#16 || w.extractLsb' 2 30 = 0x00800000#30 ||
    w.extractLsb' 16 16 = 0x0300#16

/-- The check on a term, for a block whose line buffer has `lineW` elements. -/
def Instr.wellFormed (lineW : Nat) : Instr → Bool
  | .rPLinebuf i => i.toNat < lineW
  | .wPLinebuf i _ => i.toNat < lineW
  | .rCLinebuf i => i.toNat < lineW
  | .wCLinebuf i _ => i.toNat < lineW
  | .reservedCommand w => !isNamedCommand w
  | .rPStatus | .wPStatus _ | .rPBusy | .wPBusy _ | .rPMboxTx | .wPMboxTx _ | .rPMboxRx
  | .wPMboxRx _ | .rPFault | .wPFault _ | .rPPalette _ | .wPPalette _ _ | .rCStatus
  | .wCStatus _ | .rCBusyClr | .wCBusyClr _ | .rCMboxRx | .wCMboxRx _ | .rCMboxTx | .wCMboxTx _
  | .rCFault | .wCFault _ | .rCCtrl | .wCCtrl _ | .rCInit | .wCInit _ | .rCWinCol | .wCWinCol _
  | .rCWinRow | .wCWinRow _ | .rCWinApply | .wCWinApply _ | .rCSetAddress | .wCSetAddress _
  | .rCStreamBegin | .wCStreamBegin _ | .rCPixel | .wCPixel _ | .rCStreamEnd | .wCStreamEnd _
  | .rCFillColor | .wCFillColor _ | .rCFillXY | .wCFillXY _ | .rCFillWH | .wCFillWH _
  | .rCFillGo | .wCFillGo _ | .rCInvert | .wCInvert _ | .rCPower | .wCPower _ | .rCBacklight
  | .wCBacklight _ | .rCIdle | .wCIdle _ | .rCDrawLine | .wCDrawLine _ | .rCPalette _
  | .wCPalette _ _ | .nop | .drawLine _ | .setIdle _ _ | .setPixel _ | .swreset | .slpin
  | .slpout | .noron | .invoff | .invon | .dispoff | .dispon | .caset | .raset | .ramwr
  | .madctl | .idmoff | .idmon | .colmod => true
end Sys2Proof
end

