-- ==== Sys2Proof/Decode.lean ====
section
/-! DEFINITION. The decoder and, after it, the encoder (spec 30_encoding.md).

Three formats are decoded: FA, an access of some width named by an 18-bit descriptor with a 32-bit data
word (R100, R101); FC, a 32-bit command word (R102 to R104); FW, a command byte sent with DC = 0
(R107, 41_panel_receiver.md R200). The hardware stores none of them as bytes in a memory: a host
presents the first, the P2C slot holds the second, the wire carries the third. -/

namespace Sys2Proof

/-- What is given to the decoder. `access width A D` is an access of `width` bits with descriptor
`A` = (PORT, WR, OFF) and data word `D`. -/
inductive Code where
  | access (width : Nat) (A : BitVec 18) (D : Word)
  | command (w : Word)
  | wire (b : Byte)
  deriving DecidableEq, Repr

/-- Why a code names no operation. -/
inductive DecodeError where
  /-- The access is not a whole, aligned 32-bit word (20_memory.md R74). -/
  | badAccess
  /-- The offset is not in the port's map (30_encoding.md R101 steps 2 and 5). -/
  | badRegister
  /-- The command byte is not in the table of 41_panel_receiver.md R200. -/
  | unknownWireByte
  deriving DecidableEq, Repr

/-! ### Format FA -/

/-- R101 step 4 for the P-port: the fixed offsets of 10_state.md R40. -/
def decodeFixedP (wr : Bool) (off : Half) (D : Word) : Option Instr :=
  match off.toNat, wr with
  | 0x0000, false => some .rPStatus
  | 0x0000, true => some (.wPStatus D)
  | 0x0004, false => some .rPBusy
  | 0x0004, true => some (.wPBusy D)
  | 0x0008, false => some .rPMboxTx
  | 0x0008, true => some (.wPMboxTx D)
  | 0x000C, false => some .rPMboxRx
  | 0x000C, true => some (.wPMboxRx D)
  | 0x0010, false => some .rPFault
  | 0x0010, true => some (.wPFault D)
  | _, _ => none

/-- R101 step 4 for the C-port: the fixed offsets of 10_state.md R41. -/
def decodeFixedC (wr : Bool) (off : Half) (D : Word) : Option Instr :=
  match off.toNat, wr with
  | 0x0000, false => some .rCStatus
  | 0x0000, true => some (.wCStatus D)
  | 0x0004, false => some .rCBusyClr
  | 0x0004, true => some (.wCBusyClr D)
  | 0x0008, false => some .rCMboxRx
  | 0x0008, true => some (.wCMboxRx D)
  | 0x000C, false => some .rCMboxTx
  | 0x000C, true => some (.wCMboxTx D)
  | 0x0010, false => some .rCFault
  | 0x0010, true => some (.wCFault D)
  | 0x0014, false => some .rCCtrl
  | 0x0014, true => some (.wCCtrl D)
  | 0x0040, false => some .rCInit
  | 0x0040, true => some (.wCInit D)
  | 0x0044, false => some .rCWinCol
  | 0x0044, true => some (.wCWinCol D)
  | 0x0048, false => some .rCWinRow
  | 0x0048, true => some (.wCWinRow D)
  | 0x004C, false => some .rCWinApply
  | 0x004C, true => some (.wCWinApply D)
  | 0x0050, false => some .rCSetAddress
  | 0x0050, true => some (.wCSetAddress D)
  | 0x0054, false => some .rCStreamBegin
  | 0x0054, true => some (.wCStreamBegin D)
  | 0x0058, false => some .rCPixel
  | 0x0058, true => some (.wCPixel D)
  | 0x005C, false => some .rCStreamEnd
  | 0x005C, true => some (.wCStreamEnd D)
  | 0x0060, false => some .rCFillColor
  | 0x0060, true => some (.wCFillColor D)
  | 0x0064, false => some .rCFillXY
  | 0x0064, true => some (.wCFillXY D)
  | 0x0068, false => some .rCFillWH
  | 0x0068, true => some (.wCFillWH D)
  | 0x006C, false => some .rCFillGo
  | 0x006C, true => some (.wCFillGo D)
  | 0x0070, false => some .rCInvert
  | 0x0070, true => some (.wCInvert D)
  | 0x0074, false => some .rCPower
  | 0x0074, true => some (.wCPower D)
  | 0x0078, false => some .rCBacklight
  | 0x0078, true => some (.wCBacklight D)
  | 0x007C, false => some .rCIdle
  | 0x007C, true => some (.wCIdle D)
  | 0x0080, false => some .rCDrawLine
  | 0x0080, true => some (.wCDrawLine D)
  | _, _ => none

/-- R101 step 2: the access to `LINEBUF[i]`. -/
def linebufAccess (port wr : Bool) (i : BitVec 10) (D : Word) : Instr :=
  match port, wr with
  | false, false => .rPLinebuf i
  | false, true => .wPLinebuf i D
  | true, false => .rCLinebuf i
  | true, true => .wCLinebuf i D

/-- R101 step 3: the access to `PALETTE[k]`. -/
def paletteAccess (port wr : Bool) (k : BitVec 4) (D : Word) : Instr :=
  match port, wr with
  | false, false => .rPPalette k
  | false, true => .wPPalette k D
  | true, false => .rCPalette k
  | true, true => .wCPalette k D

/-- R101: the steps of decoding an access, in order; the first that applies wins. `port` is PORT
(false = P-port, true = C-port), `wr` is WR, `lineW` is LINE_W. -/
def decodeOffset (lineW width : Nat) (port wr : Bool) (off : Half) (D : Word) :
    Except DecodeError Instr :=
  if width ≠ 32 ∨ off.extractLsb' 0 2 ≠ 0#2 then .error .badAccess
  else if off.extractLsb' 12 4 = 0x1#4 then
    if (off.extractLsb' 2 10).toNat < lineW then
      .ok (linebufAccess port wr (off.extractLsb' 2 10) D)
    else .error .badRegister
  else if off.extractLsb' 6 10 = 0x004#10 then
    .ok (paletteAccess port wr (off.extractLsb' 2 4) D)
  else
    match (if port then decodeFixedC wr off D else decodeFixedP wr off D) with
    | some i => .ok i
    | none => .error .badRegister

/-- R100: the fields of a descriptor. -/
def decodeDescriptor (lineW width : Nat) (A : BitVec 18) (D : Word) : Except DecodeError Instr :=
  decodeOffset lineW width (A.getLsbD 17) (A.getLsbD 16) (A.extractLsb' 0 16) D

/-! ### Format FC -/

/-- R103, R104: every word is a command word, named or reserved. -/
def decodeCommand (w : Word) : Instr :=
  if w = 0x00000000#32 then .nop
  else if w.extractLsb' 16 16 = 0x0100#16 then .drawLine (w.extractLsb' 0 16)
  else if w.extractLsb' 2 30 = 0x00800000#30 then .setIdle (w.getLsbD 1) (w.getLsbD 0)
  else if w.extractLsb' 16 16 = 0x0300#16 then .setPixel (w.extractLsb' 0 16)
  else .reservedCommand w

/-! ### Format FW -/

/-- 41_panel_receiver.md R200: the wire command a byte names. -/
def decodeWire (b : Byte) : Except DecodeError Instr :=
  match b.toNat with
  | 0x01 => .ok .swreset
  | 0x10 => .ok .slpin
  | 0x11 => .ok .slpout
  | 0x13 => .ok .noron
  | 0x20 => .ok .invoff
  | 0x21 => .ok .invon
  | 0x28 => .ok .dispoff
  | 0x29 => .ok .dispon
  | 0x2A => .ok .caset
  | 0x2B => .ok .raset
  | 0x2C => .ok .ramwr
  | 0x36 => .ok .madctl
  | 0x38 => .ok .idmoff
  | 0x39 => .ok .idmon
  | 0x3A => .ok .colmod
  | _ => .error .unknownWireByte

/-! ### The decoder -/

/-- The decoder: total on every code, and what it refuses it refuses by name. -/
def decode (lineW : Nat) : Code → Except DecodeError Instr
  | .access width A D => decodeDescriptor lineW width A D
  | .command w => .ok (decodeCommand w)
  | .wire b => decodeWire b

/-- The code that an opcode-table word of `nbits` bits stands for. FW rows have 8 bits and FC rows 32.
FA rows have an 18-bit descriptor, which takes 24 bits in whole bytes with bits 23 to 18 zero; the
access is 32 bits wide, and its data word, to which the table gives no bits, stands above bit 23
(log 27). -/
def Code.ofTable (nbits w : Nat) : Option Code :=
  if nbits = 8 then some (.wire (BitVec.ofNat 8 w))
  else if nbits = 32 then some (.command (BitVec.ofNat 32 w))
  else if nbits = 18 ∨ nbits = 24 then
    if (w / 2 ^ 18) % 2 ^ 6 = 0 then
      some (.access 32 (BitVec.ofNat 18 w) (BitVec.ofNat 32 (w / 2 ^ 24)))
    else none
  else none

/-- The instruction the decoder reads from an opcode-table word, with LINE_W as R7 gives it. -/
def decodeTableWord (nbits w : Nat) : Option Instr :=
  match Code.ofTable nbits w with
  | none => none
  | some c =>
    match decode Config.lineWidth c with
    | .ok i => some i
    | .error _ => none

/-! ### The encoder -/

/-- R100: the descriptor with these fields. -/
def descriptor (port wr : Bool) (off : Half) : BitVec 18 :=
  BitVec.ofBool port ++ BitVec.ofBool wr ++ off

/-- The code of a read (PORT, OFF). -/
def readCode (port : Bool) (off : Half) : Code := .access 32 (descriptor port false off) 0

/-- The code of a write (PORT, OFF) of `v`. -/
def writeCode (port : Bool) (off : Half) (v : Word) : Code := .access 32 (descriptor port true off) v

/-- The offset 0x0100 + 4k of `PALETTE[k]`. -/
def paletteOffset (k : BitVec 4) : Half := 0x004#10 ++ k ++ 0#2

/-- The offset 0x1000 + 4i of `LINEBUF[i]`. -/
def linebufOffset (i : BitVec 10) : Half := 0x1#4 ++ i ++ 0#2

/-- R103: the word DRAW_LINE(row). -/
def drawLineWord (row : Half) : Word := 0x0100#16 ++ row

/-- R103: the word SET_IDLE(mode), IDLE in bit 0 and INVERT in bit 1. -/
def setIdleWord (invert idle : Bool) : Word :=
  0x00800000#30 ++ BitVec.ofBool invert ++ BitVec.ofBool idle

/-- R103: the word SET_PIXEL(value). -/
def setPixelWord (color : Half) : Word := 0x0300#16 ++ color

/-- The code of an operation, from the tables R101, R103, R110, R111 and R200. -/
def encode : Instr → Code
  | .rPStatus => readCode false 0x0000
  | .wPStatus v => writeCode false 0x0000 v
  | .rPBusy => readCode false 0x0004
  | .wPBusy v => writeCode false 0x0004 v
  | .rPMboxTx => readCode false 0x0008
  | .wPMboxTx v => writeCode false 0x0008 v
  | .rPMboxRx => readCode false 0x000C
  | .wPMboxRx v => writeCode false 0x000C v
  | .rPFault => readCode false 0x0010
  | .wPFault v => writeCode false 0x0010 v
  | .rPPalette k => readCode false (paletteOffset k)
  | .wPPalette k v => writeCode false (paletteOffset k) v
  | .rPLinebuf i => readCode false (linebufOffset i)
  | .wPLinebuf i v => writeCode false (linebufOffset i) v
  | .rCStatus => readCode true 0x0000
  | .wCStatus v => writeCode true 0x0000 v
  | .rCBusyClr => readCode true 0x0004
  | .wCBusyClr v => writeCode true 0x0004 v
  | .rCMboxRx => readCode true 0x0008
  | .wCMboxRx v => writeCode true 0x0008 v
  | .rCMboxTx => readCode true 0x000C
  | .wCMboxTx v => writeCode true 0x000C v
  | .rCFault => readCode true 0x0010
  | .wCFault v => writeCode true 0x0010 v
  | .rCCtrl => readCode true 0x0014
  | .wCCtrl v => writeCode true 0x0014 v
  | .rCInit => readCode true 0x0040
  | .wCInit v => writeCode true 0x0040 v
  | .rCWinCol => readCode true 0x0044
  | .wCWinCol v => writeCode true 0x0044 v
  | .rCWinRow => readCode true 0x0048
  | .wCWinRow v => writeCode true 0x0048 v
  | .rCWinApply => readCode true 0x004C
  | .wCWinApply v => writeCode true 0x004C v
  | .rCSetAddress => readCode true 0x0050
  | .wCSetAddress v => writeCode true 0x0050 v
  | .rCStreamBegin => readCode true 0x0054
  | .wCStreamBegin v => writeCode true 0x0054 v
  | .rCPixel => readCode true 0x0058
  | .wCPixel v => writeCode true 0x0058 v
  | .rCStreamEnd => readCode true 0x005C
  | .wCStreamEnd v => writeCode true 0x005C v
  | .rCFillColor => readCode true 0x0060
  | .wCFillColor v => writeCode true 0x0060 v
  | .rCFillXY => readCode true 0x0064
  | .wCFillXY v => writeCode true 0x0064 v
  | .rCFillWH => readCode true 0x0068
  | .wCFillWH v => writeCode true 0x0068 v
  | .rCFillGo => readCode true 0x006C
  | .wCFillGo v => writeCode true 0x006C v
  | .rCInvert => readCode true 0x0070
  | .wCInvert v => writeCode true 0x0070 v
  | .rCPower => readCode true 0x0074
  | .wCPower v => writeCode true 0x0074 v
  | .rCBacklight => readCode true 0x0078
  | .wCBacklight v => writeCode true 0x0078 v
  | .rCIdle => readCode true 0x007C
  | .wCIdle v => writeCode true 0x007C v
  | .rCDrawLine => readCode true 0x0080
  | .wCDrawLine v => writeCode true 0x0080 v
  | .rCPalette k => readCode true (paletteOffset k)
  | .wCPalette k v => writeCode true (paletteOffset k) v
  | .rCLinebuf i => readCode true (linebufOffset i)
  | .wCLinebuf i v => writeCode true (linebufOffset i) v
  | .nop => .command 0x00000000
  | .drawLine row => .command (drawLineWord row)
  | .setIdle invert idle => .command (setIdleWord invert idle)
  | .setPixel color => .command (setPixelWord color)
  | .reservedCommand w => .command w
  | .swreset => .wire 0x01
  | .slpin => .wire 0x10
  | .slpout => .wire 0x11
  | .noron => .wire 0x13
  | .invoff => .wire 0x20
  | .invon => .wire 0x21
  | .dispoff => .wire 0x28
  | .dispon => .wire 0x29
  | .caset => .wire 0x2A
  | .raset => .wire 0x2B
  | .ramwr => .wire 0x2C
  | .madctl => .wire 0x36
  | .idmoff => .wire 0x38
  | .idmon => .wire 0x39
  | .colmod => .wire 0x3A

end Sys2Proof
end

