-- ==== Sys2Proof/Machine/State.lean ====
section
/-! DEFINITION. The state of the machine: everything spec 10_state.md gives the block, the reference
receiver of 41_panel_receiver.md R201, and the environment the block works in (the accesses the hosts
issue, and whose turn is next). All of it is plain data. -/

namespace Sys2Proof.Machine

/-- A sparse store: (index, value) pairs with strictly rising indices (`Memory.wf`, in Ops.lean). An
index that is not listed holds no value: LB_VALID and PAL_VALID are 0 there, a panel cell is
`unspecified` there (log 5). With 8-bit values it is a list of `Host.Cell`. -/
abbrev Memory (α : Type) := List (Nat × α)

/-! ### The wire -/

/-- 40_panellink.md R140: the events of the wire trace. -/
inductive WireEvent where
  /-- byte `b` shifted out with DC = 0 -/
  | cmd (b : Byte)
  /-- byte `b` shifted out with DC = 1 -/
  | dat (b : Byte)
  /-- CSn driven to level `l` (false = selected) -/
  | cs (l : Bool)
  /-- RSTn driven to level `l` (false = panel held in reset) -/
  | rst (l : Bool)
  /-- BL driven to level `l` (true = backlight on) -/
  | bl (l : Bool)
  /-- the engine idles at least `n` milliseconds -/
  | wait (n : Nat)
  deriving DecidableEq, Repr

/-- Who issued an operation of the link engine: agent C by an access, or the dispatcher D. -/
inductive Issuer where
  | port
  | disp
  deriving DecidableEq, Repr

/-- One entry of the op queue (10_state.md R30): an event, and what its performance does besides. -/
structure QItem where
  /-- the event -/
  ev : WireEvent
  /-- DC is driven to 1 before the event (40_panellink.md R158; log 12) -/
  dataMode : Bool := false
  /-- the last event of an InitSequence: INIT_DONE becomes 1 (R153) -/
  endsInit : Bool := false
  /-- the last event that an operation queued: the operation of this issuer completes (R145) -/
  ends : Option Issuer := none
  deriving DecidableEq, Repr

/-- 10_state.md R35: the levels of the output pins. -/
structure Pins where
  sck : Bool
  mosi : Bool
  csn : Bool
  dc : Bool
  rstn : Bool
  bl : Bool
  deriving DecidableEq, Repr

/-! ### The ports -/

/-- An access a host issues: its width in bits, WR, the offset of its lowest byte, and the data word
of a write. The port is the one its host is wired to (20_memory.md R71). -/
structure Access where
  width : Nat
  write : Bool
  off : Half
  data : Word
  deriving DecidableEq, Repr

/-- 10_state.md R37: an access in progress on a port. -/
inductive Hold where
  /-- a mailbox read whose hold condition is not yet true -/
  | read (i : Instr)
  /-- a mailbox write whose hold condition is not yet true -/
  | write (i : Instr)
  /-- a link operation whose last event is not yet performed (40_panellink.md R145) -/
  | link
  deriving DecidableEq, Repr

/-- One host port: what its host still has to issue, the access in progress, and what the last
completed access returned to the host. -/
structure Port where
  /-- the accesses the host has still to issue, in program order (log 3) -/
  reqs : List Access
  /-- the access in progress, R37 -/
  hold : Option Hold
  /-- the word the last completed access returned; none after a write (log 8) -/
  answer : Option Word
  deriving DecidableEq, Repr

/-- The two host ports; `p` is PORT = 0 and `c` is PORT = 1 (30_encoding.md R100). -/
inductive PortId where
  | p
  | c
  deriving DecidableEq, Repr

/-! ### Faults of the block -/

/-- 60_exceptions.md R310: the fault codes that are raised. -/
inductive FaultCode where
  | badAccess
  | badRegister
  | ownerViolation
  | bufferRace
  | bufferNotOwned
  | streamNotOpen
  | streamOpen
  | windowInverted
  | windowRange
  | uninitRead
  | paletteIndex
  | paletteLocked
  | badCommand
  | rowRange
  deriving DecidableEq, Repr

/-- A failed check: the code and the offset it records (60_exceptions.md R311). -/
structure Trap where
  code : FaultCode
  off : Half
  deriving DecidableEq, Repr

/-- 10_state.md R26: the fault latch. -/
structure FaultLatch where
  /-- CODE, 0 = no fault -/
  code : Byte
  /-- PORT, true = C-port or dispatcher -/
  port : Bool
  /-- DISP, true = raised by the dispatcher -/
  disp : Bool
  /-- OFFSET of the faulting access -/
  offset : Half
  deriving DecidableEq, Repr

/-! ### The dispatcher -/

/-- 10_state.md R36: the dispatcher's phase. `exec w k issued` is EXEC(w, k); `issued` says that the
operation ops[k] is outstanding (44_dispatcher.md R290). -/
inductive Phase where
  | off
  | waitCmd
  | exec (w : Word) (k : Nat) (issued : Bool)
  deriving DecidableEq, Repr

/-! ### The reference receiver -/

/-- The wire commands that collect parameter bytes (41_panel_receiver.md R219 to R221). -/
inductive ParamCmd where
  | caset
  | raset
  | madctl
  | colmod
  deriving DecidableEq, Repr

/-- 41_panel_receiver.md R201: the command context. -/
inductive Context where
  | none
  | params (cmd : ParamCmd) (got : List Byte)
  | memWrite (pending : Option Byte)
  deriving DecidableEq, Repr

/-- 41_panel_receiver.md R201: the receiver's record when its state is known. -/
structure PanelRec where
  sleep : Bool
  displayOn : Bool
  invert : Bool
  idle : Bool
  normal : Bool
  colmod : Byte
  madctl : Byte
  /-- the window: first and last column, first and last row -/
  xs : Half
  xe : Half
  ys : Half
  ye : Half
  /-- the write cursor -/
  cx : Half
  cy : Half
  ctx : Context
  /-- the frame memory, by `cellIndex` (Ops.lean); an unlisted cell is `unspecified` -/
  gram : Memory Half
  deriving DecidableEq, Repr

/-- 41_panel_receiver.md R201, R202: the receiver. in_reset follows RSTn and bl follows BL, also while
the rest is UNKNOWN (log 14). -/
structure Panel where
  inReset : Bool
  bl : Bool
  /-- none is UNKNOWN -/
  known : Option PanelRec
  deriving DecidableEq, Repr

/-! ### The machine -/

/-- Whose turn it is: an agent of 60_exceptions.md R321, or the platform's block reset (R340). -/
inductive Turn where
  | p
  | c
  | d
  | e
  | reset
  deriving DecidableEq, Repr

/-- The machine's state. -/
structure State where
  /-- the implementation parameters, 00_scope.md R7 (log 7) -/
  cfg : Params
  /-- BUSY, R22 -/
  busy : Bool
  /-- the P2C slot, R23: FULL is "some", DATA its word (log 4) -/
  p2c : Option Word
  /-- the C2P slot, R24 -/
  c2p : Option Word
  /-- PAL_LOCKED, R25 -/
  palLocked : Bool
  /-- FAULT, R26 -/
  fault : FaultLatch
  /-- DISPATCH_EN, R27 -/
  dispatchEn : Bool
  /-- INIT_DONE, R28 -/
  initDone : Bool
  /-- STREAM_OPEN, R29 -/
  streamOpen : Bool
  /-- the engine's op queue, R30 -/
  opQueue : List QItem
  /-- WIN_COL, R31: START[15:0], END[31:16] -/
  winCol : Word
  /-- WIN_ROW, R31: START[15:0], END[31:16] -/
  winRow : Word
  /-- FILL_COLOR, R31: COLOR[15:0] -/
  fillColor : Word
  /-- FILL_XY, R31: X[15:0], Y[31:16] -/
  fillXY : Word
  /-- FILL_WH, R31: W[15:0], H[31:16] -/
  fillWH : Word
  /-- BL, R32 -/
  bl : Bool
  /-- LINEBUF with LB_VALID, R33 -/
  linebuf : Memory Byte
  /-- PALETTE with PAL_VALID, R34 -/
  palette : Memory Half
  /-- the output pins, R35 -/
  pins : Pins
  /-- the dispatcher's phase, R36 -/
  phase : Phase
  /-- the P-port, R37 -/
  portP : Port
  /-- the C-port, R37 -/
  portC : Port
  /-- the wire trace so far, 40_panellink.md R140 -/
  trace : List WireEvent
  /-- the reference receiver, 41_panel_receiver.md R201 -/
  panel : Panel
  /-- the interleaving still to come, 20_memory.md R78 (log 1) -/
  turns : List Turn
  deriving DecidableEq, Repr

/-- Reasons for which a step of the model would stop with a fault: there are none. Every fault of the
block is a next state in which the fault latch is written (60_exceptions.md R311, R312, R277). -/
inductive Fault where
  deriving DecidableEq, Repr

/-- Reasons for which a step of the model would be refused. -/
inductive Refusal where
  /-- Raised by `exec` for an instruction that has no meaning yet; safe. No arm raises it now. -/
  | notModelled (mnemonic : String)
  deriving DecidableEq, Repr

/-! ### Reset -/

/-- R26, R340: no fault. -/
def FaultLatch.none : FaultLatch := { code := 0, port := false, disp := false, offset := 0 }

/-- R35, R340: the reset levels of the pins. -/
def Pins.reset : Pins :=
  { sck := false, mosi := false, csn := true, dc := true, rstn := true, bl := false }

/-- R37, R340: no access in progress. -/
def Port.reset : Port := { reqs := [], hold := Option.none, answer := Option.none }

/-- 41_panel_receiver.md R202: the receiver before the block has emitted any event. -/
def Panel.initial : Panel := { inReset := false, bl := false, known := Option.none }

/-- 70_reset_and_hazards.md R340: the reset state of a block with parameters `cfg`, in front of a panel
that no event has reached, with hosts that issue nothing. -/
def State.resetWith (cfg : Params) : State :=
  { cfg := cfg
    busy := false
    p2c := Option.none
    c2p := Option.none
    palLocked := false
    fault := FaultLatch.none
    dispatchEn := false
    initDone := false
    streamOpen := false
    opQueue := []
    winCol := 0
    winRow := 0
    fillColor := 0
    fillXY := 0
    fillWH := 0
    bl := false
    linebuf := []
    palette := []
    pins := Pins.reset
    phase := .off
    portP := Port.reset
    portC := Port.reset
    trace := []
    panel := Panel.initial
    turns := [] }

/-- The machine right after reset. -/
def State.reset : State := State.resetWith Config.board

end Sys2Proof.Machine
end

