-- ==== Sys2Proof/Machine/Flags.lean ====
section
/-! DEFINITION. The status bits and words that are computed from the state (spec 10_state.md R30, R40,
R41; 42_mailbox.md R242; 43_busy_status.md R261, R262, R267). -/

namespace Sys2Proof.Machine

/-- The block is faulted: FAULT.CODE ≠ 0 (R26). -/
def State.faulted (s : State) : Bool := s.fault.code != 0#8

/-- LINK_BUSY = (op queue non-empty) (R30). -/
def State.linkBusy (s : State) : Bool := !s.opQueue.isEmpty

/-- SEND_READY = (P2C.FULL = 0) and (BUSY = 0) (R242). -/
def State.sendReady (s : State) : Bool := s.p2c.isNone && !s.busy

/-- P_STATUS (R261). -/
def State.pStatus (s : State) : Word :=
  0#26 ++ BitVec.ofBool s.faulted ++ BitVec.ofBool s.palLocked ++ BitVec.ofBool s.sendReady ++
    BitVec.ofBool s.c2p.isSome ++ BitVec.ofBool s.p2c.isSome ++ BitVec.ofBool s.busy

/-- C_STATUS (R262). -/
def State.cStatus (s : State) : Word :=
  0#22 ++ BitVec.ofBool s.bl ++ BitVec.ofBool s.palLocked ++ BitVec.ofBool s.dispatchEn ++
    BitVec.ofBool s.initDone ++ BitVec.ofBool s.faulted ++ BitVec.ofBool s.streamOpen ++
    BitVec.ofBool s.linkBusy ++ BitVec.ofBool s.c2p.isSome ++ BitVec.ofBool s.p2c.isSome ++
    BitVec.ofBool s.busy

/-- The word of P_FAULT and C_FAULT (R267): {OFFSET, 0b000000, DISP, PORT, CODE}. -/
def FaultLatch.word (f : FaultLatch) : Word :=
  f.offset ++ 0#6 ++ BitVec.ofBool f.disp ++ BitVec.ofBool f.port ++ f.code

end Sys2Proof.Machine
end

