-- ==== Sys2Proof/Machine/Operands.lean ====
section
/-! DEFINITION. The operand fields of registers and data words (spec 30_encoding.md R105, R109). -/

namespace Sys2Proof.Machine

/-- The low 16-bit field: START, X, W, COLOR, ROW (R109). -/
def lowHalf (v : Word) : Half := v.extractLsb' 0 16

/-- The high 16-bit field: END, Y, H (R109). -/
def highHalf (v : Word) : Half := v.extractLsb' 16 16

/-- The word {hi, lo} (00_scope.md R10). -/
def pairWord (hi lo : Half) : Word := hi ++ lo

/-- A boolean operand: bit 0; the other bits are ignored (R109). -/
def boolOperand (v : Word) : Bool := v.getLsbD 0

/-- zext_32 of a 16-bit value (00_scope.md R10). -/
def zextHalf (v : Half) : Word := v.setWidth 32

/-- zext_32 of an 8-bit value. -/
def zextByte (v : Byte) : Word := v.setWidth 32

/-- zext_32 of one bit. -/
def zextBool (b : Bool) : Word := (BitVec.ofBool b).setWidth 32

/-- v[15:8], the byte sent first (20_memory.md R73). -/
def highByte (v : Half) : Byte := v.extractLsb' 8 8

/-- v[7:0], the byte sent second (20_memory.md R73). -/
def lowByte (v : Half) : Byte := v.extractLsb' 0 8

/-- The 16-bit value {hi, lo} of two bytes (41_panel_receiver.md R215, R219). -/
def joinBytes (hi lo : Byte) : Half := hi ++ lo

/-- trunc_16 of a mathematical integer (00_scope.md R10). -/
def truncHalf (n : Nat) : Half := BitVec.ofNat 16 n

/-- The palette index of an indexed pixel value: e[3:0] = 4*LAYER + SHADE (30_encoding.md R105). -/
def paletteIndex (e : Byte) : BitVec 4 := e.extractLsb' 0 4

/-- e[7:4], which must be 0 when the element is mapped (30_encoding.md R105). -/
def elementReserved (e : Byte) : BitVec 4 := e.extractLsb' 4 4

end Sys2Proof.Machine
end

