-- ==== Sys2Proof/Machine/Ops.lean ====
section
/-! DEFINITION. The shared operations: the sparse stores, the ports, raising a fault and the block
reset, the common access rules, and the engine's queue and pins. -/

namespace Sys2Proof.Machine

/-! ### Stores -/

/-- What index `a` holds, if anything. -/
def Memory.read {α : Type} : Memory α → Nat → Option α
  | [], _ => none
  | (k, v) :: m, a => if k = a then some v else Memory.read m a

/-- Index `a` holds `v` afterwards; the list stays sorted. -/
def Memory.write {α : Type} : Memory α → Nat → α → Memory α
  | [], a, v => [(a, v)]
  | (k, w) :: m, a, v =>
    if a < k then (a, v) :: (k, w) :: m
    else if a = k then (a, v) :: m
    else (k, w) :: Memory.write m a v

/-- Every index is above `lo` and the indices rise strictly. -/
def Memory.sortedFrom {α : Type} (lo : Nat) : Memory α → Bool
  | [] => true
  | (k, _) :: m => decide (lo ≤ k) && Memory.sortedFrom (k + 1) m

/-- The canonical form: strictly rising indices. An unlisted index reads as no value, so no entry
equals what an unlisted index reads as. -/
def Memory.wf {α : Type} (m : Memory α) : Bool := Memory.sortedFrom 0 m

/-! ### Ports -/

/-- The port of an agent. -/
def State.port (s : State) : PortId → Port
  | .p => s.portP
  | .c => s.portC

/-- The state with another port. -/
def State.setPort (s : State) : PortId → Port → State
  | .p, q => { s with portP := q }
  | .c, q => { s with portC := q }

/-- FAULT.PORT of a port: 0 = P-port, 1 = C-port (R26). -/
def PortId.bit : PortId → Bool
  | .p => false
  | .c => true

/-- The access on port `pid` completes and returns `ans` (a word for a read, nothing for a write). -/
def State.complete (s : State) (pid : PortId) (ans : Option Word) : State :=
  s.setPort pid { s.port pid with hold := none, answer := ans }

/-- The access on port `pid` is held (10_state.md R37). -/
def State.holdPort (s : State) (pid : PortId) (h : Hold) : State :=
  s.setPort pid { s.port pid with hold := some h }

/-- The access on port `pid` is no longer in progress, and has returned nothing yet. -/
def State.release (s : State) (pid : PortId) : State :=
  s.setPort pid { s.port pid with hold := none }

/-! ### Raising a fault, and the only way out -/

/-- 60_exceptions.md R310: the byte of a fault code. -/
def FaultCode.byte : FaultCode → Byte
  | .badAccess => 0x01
  | .badRegister => 0x02
  | .ownerViolation => 0x03
  | .bufferRace => 0x04
  | .bufferNotOwned => 0x05
  | .streamNotOpen => 0x06
  | .streamOpen => 0x07
  | .windowInverted => 0x08
  | .windowRange => 0x09
  | .uninitRead => 0x0A
  | .paletteIndex => 0x0B
  | .paletteLocked => 0x0C
  | .badCommand => 0x0D
  | .rowRange => 0x0E

/-- A held access completes at a fault with no effect; a held read returns 0x00000000 (42_mailbox.md
R251, 60_exceptions.md R311). -/
def Port.dropHeld (q : Port) : Port :=
  match q.hold with
  | none => q
  | some (.read _) => { q with hold := none, answer := some 0 }
  | some (.write _) => { q with hold := none, answer := none }
  | some .link => { q with hold := none, answer := none }

/-- TAKING A FAULT (60_exceptions.md R311): the latch is written if it is empty, the op queue is
discarded, and every held access completes with no effect. `port` is FAULT.PORT and `disp` is
FAULT.DISP. There is no handler and no return (R317). -/
def State.raiseFault (s : State) (t : Trap) (port disp : Bool) : State :=
  { s with
    fault := if s.faulted then s.fault
             else { code := t.code.byte, port := port, disp := disp, offset := t.off }
    opQueue := []
    portP := s.portP.dropHeld
    portC := s.portC.dropHeld }

/-- THE WAY OUT OF A FAULT (R317): the block reset, 70_reset_and_hazards.md R340, R341. Every piece of
the block's state takes its reset value; the panel is not told and no wire event is emitted. What the
hosts have still to issue and the interleaving are outside the block (log 23). -/
def State.blockReset (s : State) : State :=
  { State.resetWith s.cfg with
    portP := { Port.reset with reqs := s.portP.reqs }
    portC := { Port.reset with reqs := s.portC.reqs }
    trace := s.trace
    panel := s.panel
    turns := s.turns }

/-! ### What an operation does -/

/-- What the rule of an access or of a dispatcher operation says happens. -/
inductive Effect where
  /-- it completes at once in this state; a read returns this word -/
  | done (s : State) (v : Word)
  /-- its hold condition is not yet true -/
  | hold
  /-- it is issued in this state and queues these events (40_panellink.md R145, R147) -/
  | start (s : State) (q : List QItem)
  /-- a check fails -/
  | trap (t : Trap)

/-- The last event of an operation completes it (40_panellink.md R145). -/
def markEnd (who : Issuer) : List QItem → List QItem
  | [] => []
  | [q] => [{ q with ends := some who }]
  | q :: r => q :: markEnd who r

/-- The events stand behind those still pending (10_state.md R30, 40_panellink.md R167). -/
def State.enqueue (s : State) (q : List QItem) : State := { s with opQueue := s.opQueue ++ q }

/-- An access by port `pid` under its own rule `body` (43_busy_status.md R260). A port whose access is
held accepts no further access (10_state.md R37; log 19). While the block is faulted a read returns
0x00000000 and a write is ignored (43_busy_status.md R277). `isRead` says that the access is a read. -/
def State.access (s : State) (pid : PortId) (isRead : Bool) (i : Instr) (body : State → Effect) : State :=
  if (s.port pid).hold.isSome then s
  else if s.faulted then s.complete pid (if isRead then some 0 else none)
  else
    match body s with
    | .done s' v => s'.complete pid (if isRead then some v else none)
    | .hold => s.holdPort pid (if isRead then .read i else .write i)
    | .start s' [] => s'.complete pid (if isRead then some 0 else none)
    | .start s' (q :: r) => (s'.enqueue (markEnd .port (q :: r))).holdPort pid .link
    | .trap t => (s.raiseFault t pid.bit false).complete pid (if isRead then some 0 else none)

/-- A read that answers in every state, faulted or not: P_STATUS, C_STATUS, P_FAULT, C_FAULT
(43_busy_status.md R277). -/
def State.statusRead (s : State) (pid : PortId) (v : Word) : State :=
  if (s.port pid).hold.isSome then s else s.complete pid (some v)

/-- A write to a read-only register: ignored (43_busy_status.md R260). -/
def State.ignoredWrite (s : State) (pid : PortId) (i : Instr) : State :=
  s.access pid false i fun s => .done s 0

/-- A read of a write-only register: returns 0x00000000 (43_busy_status.md R260). -/
def State.zeroRead (s : State) (pid : PortId) (i : Instr) : State :=
  s.access pid true i fun s => .done s 0

/-- The owner restriction on agent C (43_busy_status.md R269): it comes before the access's own rule. -/
def ownerGuard (off : Half) (body : State → Effect) (s : State) : Effect :=
  if s.dispatchEn then .trap ⟨.ownerViolation, off⟩ else body s

/-- The stream guard (40_panellink.md R148). -/
def streamGuard (off : Half) (body : State → Effect) (s : State) : Effect :=
  if s.streamOpen then .trap ⟨.streamOpen, off⟩ else body s

/-- An access whose width, alignment or offset the decoder refuses (43_busy_status.md R260 steps 1 to
3; 60_exceptions.md R315). While the block is faulted it raises nothing (R277; log 13). -/
def State.refuseAccess (s : State) (pid : PortId) (a : Access) (e : DecodeError) : State :=
  if s.faulted then s.complete pid (if a.write then none else some 0)
  else
    (s.raiseFault ⟨if e = .badAccess then .badAccess else .badRegister, a.off⟩ pid.bit false).complete pid
      (if a.write then none else some 0)

/-! ### The pins (40_panellink.md R140, R141) -/

/-- One of the eight SCK pulses of a byte: MOSI is set while SCK is 0 and held through the rising
edge, where the panel samples it. -/
def bitPulse (p : Pins) (dc bit : Bool) : List Pins :=
  [{ p with dc := dc, sck := false, mosi := bit }, { p with dc := dc, sck := true, mosi := bit }]

/-- R141: the pin levels while byte `b` is shifted out, most significant bit first. -/
def byteWave (p : Pins) (dc : Bool) (b : Byte) : List Pins :=
  (List.range 8).flatMap fun j => bitPulse p dc (b.getLsbD (7 - j))

/-- The levels after a byte: SCK idles at 0 again, the other lines as at the last pulse (log 11). -/
def Pins.afterByte (p : Pins) (dc : Bool) (b : Byte) : Pins :=
  { (byteWave p dc b).getLastD p with sck := false }

/-- R140: the levels after an event. -/
def Pins.afterEvent (p : Pins) : WireEvent → Pins
  | .cmd b => p.afterByte false b
  | .dat b => p.afterByte true b
  | .cs l => { p with csn := l }
  | .rst l => { p with rstn := l }
  | .bl l => { p with bl := l }
  | .wait _ => p

/-- The levels after an entry of the op queue: R158 drives DC to 1 first. -/
def Pins.afterItem (p : Pins) (q : QItem) : Pins :=
  (if q.dataMode then { p with dc := true } else p).afterEvent q.ev

end Sys2Proof.Machine
end

