-- ==== Sys2Proof/Machine/Link.lean ====
section
/-! DEFINITION. The link engine's operations (spec 40_panellink.md): the events they queue, their
checks, and what they write at issue. Agent C reaches them by an access and the dispatcher D by an
internal operation; the checks and effects are the same (44_dispatcher.md R297), so each is written
once here, without the owner restriction that only an access has. -/

namespace Sys2Proof.Machine

/-! ### Event lists -/

/-- An entry that only performs its event. -/
def plain (ev : WireEvent) : QItem := { ev := ev }

/-- R142: a command frame. -/
def frame (c : Byte) (ps : List Byte) : List QItem :=
  plain (.cs false) :: plain (.cmd c) :: (ps.map fun b => plain (.dat b)) ++ [plain (.cs true)]

/-- R143: a halfword, high byte first. -/
def half (v : Half) : List QItem := [plain (.dat (highByte v)), plain (.dat (lowByte v))]

/-- R150: the three frames CASET, RASET, RAMWR of a window. -/
def windowEvents (cs ce rs re : Half) : List QItem :=
  frame 0x2A [highByte cs, lowByte cs, highByte ce, lowByte ce] ++
    frame 0x2B [highByte rs, lowByte rs, highByte re, lowByte re] ++ frame 0x2C []

/-- R158: opening a stream frame drives DC to 1 and then CSn to 0. -/
def streamOpenItem : QItem := { ev := .cs false, dataMode := true }

/-- R160: closing a stream frame. -/
def streamCloseItem : QItem := plain (.cs true)

/-- A stream frame around these colours (R164, R169). -/
def streamEvents (colors : List Half) : List QItem :=
  streamOpenItem :: colors.flatMap half ++ [streamCloseItem]

/-- R152: the initialization sequence; its last event sets INIT_DONE (R153). -/
def initSequence (cfg : Params) : List QItem :=
  [plain (.rst false), plain (.wait 100), plain (.rst true), plain (.wait 100)] ++
    frame 0x01 [] ++ [plain (.wait 150)] ++
    frame 0x11 [] ++ [plain (.wait 120)] ++
    frame 0x3A [cfg.colmod16bpp] ++
    frame 0x36 [cfg.madctlInit] ++
    windowEvents 0 (truncHalf (cfg.panelW - 1)) 0 (truncHalf (cfg.panelH - 1)) ++
    frame 0x13 [] ++
    frame 0x29 [] ++
    [{ ev := .wait 120, endsInit := true }]

/-! ### Checks -/

/-- R149: the first failing check of a window, bounds as mathematical integers. -/
def checkWindow (cfg : Params) (cs ce rs re : Nat) : Option FaultCode :=
  if ce < cs ∨ re < rs then some .windowInverted
  else if cfg.panelW ≤ ce ∨ cfg.panelH ≤ re then some .windowRange
  else none

/-- R174: the staging registers record the window an operation sends. -/
def State.stageWindow (s : State) (cs ce rs re : Half) : State :=
  { s with winCol := pairWord ce cs, winRow := pairWord re rs }

/-- R170: the offset 0x1000 + 4*i of an element, for a fault. -/
def elementOffset (i : Nat) : Half := truncHalf (0x1000 + 4 * i)

/-- R170: the offset 0x0100 + 4*k of an entry, for a fault. -/
def entryOffset (k : Nat) : Half := truncHalf (0x0100 + 4 * k)

/-- R170: the colour of element `i`, or the first failing check. -/
def mapElement (s : State) (i : Nat) : Except Trap Half :=
  match s.linebuf.read i with
  | none => .error ⟨.uninitRead, elementOffset i⟩
  | some e =>
    if elementReserved e ≠ 0 then .error ⟨.paletteIndex, elementOffset i⟩
    else
      match s.palette.read (paletteIndex e).toNat with
      | none => .error ⟨.uninitRead, entryOffset (paletteIndex e).toNat⟩
      | some c => .ok c

/-- R170: elements `i`, `i + 1`, …, `n` of them, in increasing order. -/
def mapRowFrom (s : State) (i : Nat) : Nat → Except Trap (List Half)
  | 0 => .ok []
  | n + 1 =>
    match mapElement s i with
    | .error t => .error t
    | .ok c =>
      match mapRowFrom s (i + 1) n with
      | .error t => .error t
      | .ok cs => .ok (c :: cs)

/-- R170: MapRow(). -/
def mapRow (s : State) : Except Trap (List Half) := mapRowFrom s 0 s.cfg.lineW

/-! ### The operations -/

/-- R151: initialize(). -/
def linkInit : State → Effect :=
  streamGuard 0x0040 fun s =>
    .start (s.stageWindow 0 (truncHalf (s.cfg.panelW - 1)) 0 (truncHalf (s.cfg.panelH - 1)))
      (initSequence s.cfg)

/-- R156: set_window(...). -/
def linkWinApply : State → Effect :=
  streamGuard 0x004C fun s =>
    match checkWindow s.cfg (lowHalf s.winCol).toNat (highHalf s.winCol).toNat
        (lowHalf s.winRow).toNat (highHalf s.winRow).toNat with
    | some code => .trap ⟨code, 0x004C⟩
    | none =>
      .start s (windowEvents (lowHalf s.winCol) (highHalf s.winCol) (lowHalf s.winRow)
        (highHalf s.winRow))

/-- R157: set_address(x, y). -/
def linkSetAddress (v : Word) : State → Effect :=
  streamGuard 0x0050 fun s =>
    match checkWindow s.cfg (lowHalf v).toNat (lowHalf v).toNat (highHalf v).toNat
        (highHalf v).toNat with
    | some code => .trap ⟨code, 0x0050⟩
    | none =>
      .start (s.stageWindow (lowHalf v) (lowHalf v) (highHalf v) (highHalf v))
        (windowEvents (lowHalf v) (lowHalf v) (highHalf v) (highHalf v))

/-- R158: begin_pixel_stream(). -/
def linkStreamBegin : State → Effect :=
  streamGuard 0x0054 fun s => .start { s with streamOpen := true } [streamOpenItem]

/-- R159: one raw halfword. -/
def linkPixel (v : Word) (s : State) : Effect :=
  if s.streamOpen then .start s (half (lowHalf v)) else .trap ⟨.streamNotOpen, 0x0058⟩

/-- R160: end_pixel_stream(). -/
def linkStreamEnd (s : State) : Effect :=
  if s.streamOpen then .start { s with streamOpen := false } [streamCloseItem]
  else .trap ⟨.streamNotOpen, 0x005C⟩

/-- R164: fill_rect(x, y, w, h, color), from the staging registers; `ce` and `re` are exact. -/
def linkFillGo : State → Effect :=
  streamGuard 0x006C fun s =>
    let x := (lowHalf s.fillXY).toNat
    let y := (highHalf s.fillXY).toNat
    let w := (lowHalf s.fillWH).toNat
    let h := (highHalf s.fillWH).toNat
    if w = 0 ∨ h = 0 then .trap ⟨.windowInverted, 0x006C⟩
    else
      match checkWindow s.cfg x (x + w - 1) y (y + h - 1) with
      | some code => .trap ⟨code, 0x006C⟩
      | none =>
        .start
          (s.stageWindow (lowHalf s.fillXY) (truncHalf (x + w - 1)) (highHalf s.fillXY)
            (truncHalf (y + h - 1)))
          (windowEvents (lowHalf s.fillXY) (truncHalf (x + w - 1)) (highHalf s.fillXY)
              (truncHalf (y + h - 1)) ++
            streamEvents (List.replicate (w * h) (lowHalf s.fillColor)))

/-- R165: set_invert(b). -/
def linkInvert (v : Word) : State → Effect :=
  streamGuard 0x0070 fun s => .start s (frame (if boolOperand v then 0x21 else 0x20) [])

/-- R166: set_power(sleeping). -/
def linkPower (v : Word) : State → Effect :=
  streamGuard 0x0074 fun s =>
    .start s
      (if boolOperand v then
        frame 0x10 [] ++ (if 0 < s.cfg.slpinSettleMs then [plain (.wait s.cfg.slpinSettleMs)] else [])
      else frame 0x11 [] ++ [plain (.wait 120)])

/-- R167: set_backlight(b). It has no stream guard. -/
def linkBacklight (v : Word) (s : State) : Effect :=
  .start { s with bl := boolOperand v } [plain (.bl (boolOperand v))]

/-- R168: the panel's idle mode. -/
def linkIdle (v : Word) : State → Effect :=
  streamGuard 0x007C fun s => .start s (frame (if boolOperand v then 0x39 else 0x38) [])

/-- R169: one buffered row. -/
def linkDrawLine (v : Word) : State → Effect :=
  streamGuard 0x0080 fun s =>
    let row := (lowHalf v).toNat
    if !s.busy then .trap ⟨.bufferNotOwned, 0x0080⟩
    else if s.cfg.srcH ≤ row then .trap ⟨.rowRange, 0x0080⟩
    else
      match mapRow s with
      | .error t => .trap t
      | .ok colors =>
        let cs := truncHalf s.cfg.x0
        let ce := truncHalf (s.cfg.x0 + s.cfg.lineW - 1)
        let r := truncHalf (s.cfg.y0 + row)
        .start (s.stageWindow cs ce r r) (windowEvents cs ce r r ++ streamEvents colors)

/-- 43_busy_status.md R266: mark_free(). -/
def busyClear (v : Word) (s : State) : Effect :=
  .done (if boolOperand v then { s with busy := false } else s) 0

end Sys2Proof.Machine
end

