-- ==== Sys2Proof/Machine/CLink.lean ====
section
/-! DEFINITION. The meanings of agent C's accesses to the link-operation and staging registers (spec
30_encoding.md R111; 40_panellink.md R151 to R169). The owner restriction (43_busy_status.md R269)
covers the reads and the writes of all of them but C_BACKLIGHT. -/

namespace Sys2Proof.Machine

/-- A read of a link register that returns `f s` (R154, R155, R161 to R163), for the owner only. -/
def State.linkRead (s : State) (off : Half) (i : Instr) (f : State → Word) : State :=
  s.access .c true i (ownerGuard off fun s => .done s (f s))

/-- A read of a write-only link register: 0x00000000 for the owner (43_busy_status.md R260, R269). -/
def State.linkZeroRead (s : State) (off : Half) (i : Instr) : State :=
  s.linkRead off i fun _ => 0

/-- A write of a link register, for the owner only. -/
def State.linkWrite (s : State) (off : Half) (i : Instr) (body : State → Effect) : State :=
  s.access .c false i (ownerGuard off body)

/-- R.C_INIT: returns 0 (43_busy_status.md R260). -/
def execRCInit (s : State) : Host.Outcome State Fault Refusal :=
  .next (s.linkZeroRead 0x0040 .rCInit)

/-- W.C_INIT (R151). -/
def execWCInit (v : Word) (s : State) : Host.Outcome State Fault Refusal :=
  .next (s.linkWrite 0x0040 (.wCInit v) linkInit)

/-- R.C_WIN_COL (R154). -/
def execRCWinCol (s : State) : Host.Outcome State Fault Refusal :=
  .next (s.linkRead 0x0044 .rCWinCol fun s => s.winCol)

/-- W.C_WIN_COL (R154): no check, nothing emitted. -/
def execWCWinCol (v : Word) (s : State) : Host.Outcome State Fault Refusal :=
  .next (s.linkWrite 0x0044 (.wCWinCol v) fun s => .done { s with winCol := v } 0)

/-- R.C_WIN_ROW (R155). -/
def execRCWinRow (s : State) : Host.Outcome State Fault Refusal :=
  .next (s.linkRead 0x0048 .rCWinRow fun s => s.winRow)

/-- W.C_WIN_ROW (R155): no check, nothing emitted. -/
def execWCWinRow (v : Word) (s : State) : Host.Outcome State Fault Refusal :=
  .next (s.linkWrite 0x0048 (.wCWinRow v) fun s => .done { s with winRow := v } 0)

/-- R.C_WIN_APPLY: returns 0 (43_busy_status.md R260). -/
def execRCWinApply (s : State) : Host.Outcome State Fault Refusal :=
  .next (s.linkZeroRead 0x004C .rCWinApply)

/-- W.C_WIN_APPLY (R156). -/
def execWCWinApply (v : Word) (s : State) : Host.Outcome State Fault Refusal :=
  .next (s.linkWrite 0x004C (.wCWinApply v) linkWinApply)

/-- R.C_SET_ADDRESS: returns 0 (43_busy_status.md R260). -/
def execRCSetAddress (s : State) : Host.Outcome State Fault Refusal :=
  .next (s.linkZeroRead 0x0050 .rCSetAddress)

/-- W.C_SET_ADDRESS (R157). -/
def execWCSetAddress (v : Word) (s : State) : Host.Outcome State Fault Refusal :=
  .next (s.linkWrite 0x0050 (.wCSetAddress v) (linkSetAddress v))

/-- R.C_STREAM_BEGIN: returns 0 (43_busy_status.md R260). -/
def execRCStreamBegin (s : State) : Host.Outcome State Fault Refusal :=
  .next (s.linkZeroRead 0x0054 .rCStreamBegin)

/-- W.C_STREAM_BEGIN (R158). -/
def execWCStreamBegin (v : Word) (s : State) : Host.Outcome State Fault Refusal :=
  .next (s.linkWrite 0x0054 (.wCStreamBegin v) linkStreamBegin)

/-- R.C_PIXEL: returns 0 (43_busy_status.md R260). -/
def execRCPixel (s : State) : Host.Outcome State Fault Refusal :=
  .next (s.linkZeroRead 0x0058 .rCPixel)

/-- W.C_PIXEL (R159). -/
def execWCPixel (v : Word) (s : State) : Host.Outcome State Fault Refusal :=
  .next (s.linkWrite 0x0058 (.wCPixel v) (linkPixel v))

/-- R.C_STREAM_END: returns 0 (43_busy_status.md R260). -/
def execRCStreamEnd (s : State) : Host.Outcome State Fault Refusal :=
  .next (s.linkZeroRead 0x005C .rCStreamEnd)

/-- W.C_STREAM_END (R160). -/
def execWCStreamEnd (v : Word) (s : State) : Host.Outcome State Fault Refusal :=
  .next (s.linkWrite 0x005C (.wCStreamEnd v) linkStreamEnd)

/-- R.C_FILL_COLOR (R161). -/
def execRCFillColor (s : State) : Host.Outcome State Fault Refusal :=
  .next (s.linkRead 0x0060 .rCFillColor fun s => zextHalf (lowHalf s.fillColor))

/-- W.C_FILL_COLOR (R161): no check, nothing emitted. -/
def execWCFillColor (v : Word) (s : State) : Host.Outcome State Fault Refusal :=
  .next (s.linkWrite 0x0060 (.wCFillColor v) fun s => .done { s with fillColor := zextHalf (lowHalf v) } 0)

/-- R.C_FILL_XY (R162). -/
def execRCFillXY (s : State) : Host.Outcome State Fault Refusal :=
  .next (s.linkRead 0x0064 .rCFillXY fun s => s.fillXY)

/-- W.C_FILL_XY (R162): no check, nothing emitted. -/
def execWCFillXY (v : Word) (s : State) : Host.Outcome State Fault Refusal :=
  .next (s.linkWrite 0x0064 (.wCFillXY v) fun s => .done { s with fillXY := v } 0)

/-- R.C_FILL_WH (R163). -/
def execRCFillWH (s : State) : Host.Outcome State Fault Refusal :=
  .next (s.linkRead 0x0068 .rCFillWH fun s => s.fillWH)

/-- W.C_FILL_WH (R163): no check, nothing emitted. -/
def execWCFillWH (v : Word) (s : State) : Host.Outcome State Fault Refusal :=
  .next (s.linkWrite 0x0068 (.wCFillWH v) fun s => .done { s with fillWH := v } 0)

/-- R.C_FILL_GO: returns 0 (43_busy_status.md R260). -/
def execRCFillGo (s : State) : Host.Outcome State Fault Refusal :=
  .next (s.linkZeroRead 0x006C .rCFillGo)

/-- W.C_FILL_GO (R164). -/
def execWCFillGo (v : Word) (s : State) : Host.Outcome State Fault Refusal :=
  .next (s.linkWrite 0x006C (.wCFillGo v) linkFillGo)

/-- R.C_INVERT: returns 0 (43_busy_status.md R260). -/
def execRCInvert (s : State) : Host.Outcome State Fault Refusal :=
  .next (s.linkZeroRead 0x0070 .rCInvert)

/-- W.C_INVERT (R165). -/
def execWCInvert (v : Word) (s : State) : Host.Outcome State Fault Refusal :=
  .next (s.linkWrite 0x0070 (.wCInvert v) (linkInvert v))

/-- R.C_POWER: returns 0 (43_busy_status.md R260). -/
def execRCPower (s : State) : Host.Outcome State Fault Refusal :=
  .next (s.linkZeroRead 0x0074 .rCPower)

/-- W.C_POWER (R166). -/
def execWCPower (v : Word) (s : State) : Host.Outcome State Fault Refusal :=
  .next (s.linkWrite 0x0074 (.wCPower v) (linkPower v))

/-- R.C_BACKLIGHT (R167): no owner restriction (R269). -/
def execRCBacklight (s : State) : Host.Outcome State Fault Refusal :=
  .next (s.access .c true .rCBacklight fun s => .done s (zextBool s.bl))

/-- W.C_BACKLIGHT, set_backlight(b) (R167): no owner restriction (R269). -/
def execWCBacklight (v : Word) (s : State) : Host.Outcome State Fault Refusal :=
  .next (s.access .c false (.wCBacklight v) (linkBacklight v))

/-- R.C_IDLE: returns 0 (43_busy_status.md R260). -/
def execRCIdle (s : State) : Host.Outcome State Fault Refusal :=
  .next (s.linkZeroRead 0x007C .rCIdle)

/-- W.C_IDLE (R168). -/
def execWCIdle (v : Word) (s : State) : Host.Outcome State Fault Refusal :=
  .next (s.linkWrite 0x007C (.wCIdle v) (linkIdle v))

/-- R.C_DRAW_LINE: returns 0 (43_busy_status.md R260). -/
def execRCDrawLine (s : State) : Host.Outcome State Fault Refusal :=
  .next (s.linkZeroRead 0x0080 .rCDrawLine)

/-- W.C_DRAW_LINE (R169). -/
def execWCDrawLine (v : Word) (s : State) : Host.Outcome State Fault Refusal :=
  .next (s.linkWrite 0x0080 (.wCDrawLine v) (linkDrawLine v))

end Sys2Proof.Machine
end

