-- ==== Sys2Proof/Machine/Buffers.lean ====
section
/-! DEFINITION. The rules of the shared storage: palette, line buffer and mailbox slots (spec
43_busy_status.md R270 to R275, 42_mailbox.md R240 to R247), each written once for the accesses that
use it. -/

namespace Sys2Proof.Machine

/-! ### Palette -/

/-- R270: a write of `PALETTE[k]`. -/
def paletteWrite (k : BitVec 4) (v : Word) (s : State) : Effect :=
  if s.palLocked then .trap ⟨.paletteLocked, paletteOffset k⟩
  else .done { s with palette := s.palette.write k.toNat (lowHalf v) } 0

/-- R271: a read of `PALETTE[k]`. -/
def paletteRead (k : BitVec 4) (s : State) : Effect :=
  match s.palette.read k.toNat with
  | none => .trap ⟨.uninitRead, paletteOffset k⟩
  | some c => .done s (zextHalf c)

/-! ### Line buffer -/

/-- 30_encoding.md R101 step 2: an index at or beyond LINE_W is no register. The decoder refuses it;
the check here is for a term that no access decodes to (log 20). -/
def linebufIndexGuard (i : BitVec 10) (body : State → Effect) (s : State) : Effect :=
  if s.cfg.lineW ≤ i.toNat then .trap ⟨.badRegister, linebufOffset i⟩ else body s

/-- What a legal read of `LINEBUF[i]` returns (R273, R274). -/
def linebufRead (i : BitVec 10) (s : State) : Effect :=
  match s.linebuf.read i.toNat with
  | none => .trap ⟨.uninitRead, linebufOffset i⟩
  | some e => .done s (zextByte e)

/-- R272: the P-port's write of `LINEBUF[i]`. -/
def linebufWriteP (i : BitVec 10) (v : Word) : State → Effect :=
  linebufIndexGuard i fun s =>
    if s.busy then .trap ⟨.bufferRace, linebufOffset i⟩
    else .done { s with linebuf := s.linebuf.write i.toNat (lowByte (lowHalf v)) } 0

/-- R273: the P-port's read of `LINEBUF[i]`. -/
def linebufReadP (i : BitVec 10) : State → Effect :=
  linebufIndexGuard i fun s =>
    if s.busy then .trap ⟨.bufferRace, linebufOffset i⟩ else linebufRead i s

/-- R274: agent C's read of `LINEBUF[i]`. -/
def linebufReadC (i : BitVec 10) : State → Effect :=
  linebufIndexGuard i <| ownerGuard (linebufOffset i) fun s =>
    if !s.busy then .trap ⟨.bufferNotOwned, linebufOffset i⟩ else linebufRead i s

/-- R275: agent C's write of `LINEBUF[i]` always faults. -/
def linebufWriteC (i : BitVec 10) : State → Effect :=
  linebufIndexGuard i <| ownerGuard (linebufOffset i) fun _ =>
    .trap ⟨.bufferNotOwned, linebufOffset i⟩

/-! ### Mailbox -/

/-- The tag of a command word (30_encoding.md R102). -/
def commandTag (w : Word) : Byte := w.extractLsb' 24 8

/-- R241, R243, R244: the push into P2C, which sets BUSY for the tag DRAW_LINE and locks the palette
in the same step. -/
def pushP2C (v : Word) (s : State) : Effect :=
  if s.sendReady then
    .done { s with p2c := some v, busy := s.busy || commandTag v = 0x01#8, palLocked := true } 0
  else .hold

/-- R245: the pop of P2C. BUSY is not changed. -/
def popP2C (s : State) : Effect :=
  match s.p2c with
  | some w => .done { s with p2c := none } w
  | none => .hold

/-- R246: the push into C2P. The word is never interpreted. -/
def pushC2P (v : Word) (s : State) : Effect :=
  match s.c2p with
  | none => .done { s with c2p := some v } 0
  | some _ => .hold

/-- R247: the pop of C2P. -/
def popC2P (s : State) : Effect :=
  match s.c2p with
  | some w => .done { s with c2p := none } w
  | none => .hold

/-- Whether the condition that this access is held for is true (20_memory.md R78). Only the four
mailbox accesses are ever held for a condition. -/
def holdReady (s : State) : Instr → Bool
  | .wPMboxTx _ => s.sendReady || s.faulted
  | .rPMboxRx => s.c2p.isSome || s.faulted
  | .rCMboxRx => s.p2c.isSome || s.faulted
  | .wCMboxTx _ => s.c2p.isNone || s.faulted
  | _ => true

end Sys2Proof.Machine
end

