-- ==== Sys2Proof/Machine/CPort.lean ====
section
/-! DEFINITION. The meanings of the C-port accesses to status, control, mailbox, palette and line
buffer (spec 30_encoding.md R111; 43_busy_status.md, 42_mailbox.md). They are made by agent C: the
owner restriction (43_busy_status.md R269) stands where R269 lists the access. -/

namespace Sys2Proof.Machine

/-- R268: a write of C_CTRL. The stream check comes before DISPATCH_EN is looked at (log 10). -/
def ctrlWrite (v : Word) (s : State) : Effect :=
  if boolOperand v then
    if s.streamOpen then .trap ⟨.streamOpen, 0x0014⟩
    else
      .done { s with dispatchEn := true, phase := if s.phase = .off then .waitCmd else s.phase } 0
  else .done s 0

/-- R.C_STATUS (R262). -/
def execRCStatus (s : State) : Host.Outcome State Fault Refusal :=
  .next (s.statusRead .c s.cStatus)

/-- W.C_STATUS: ignored (R260). -/
def execWCStatus (v : Word) (s : State) : Host.Outcome State Fault Refusal :=
  .next (s.ignoredWrite .c (.wCStatus v))

/-- R.C_BUSY_CLR (R265): no owner restriction. -/
def execRCBusyClr (s : State) : Host.Outcome State Fault Refusal :=
  .next (s.access .c true .rCBusyClr fun s => .done s (zextBool s.busy))

/-- W.C_BUSY_CLR, mark_free(): write 1 to clear (R266). -/
def execWCBusyClr (v : Word) (s : State) : Host.Outcome State Fault Refusal :=
  .next (s.access .c false (.wCBusyClr v) (ownerGuard 0x0004 (busyClear v)))

/-- R.C_MBOX_RX, receive() (42_mailbox.md R245). -/
def execRCMboxRx (s : State) : Host.Outcome State Fault Refusal :=
  .next (s.access .c true .rCMboxRx (ownerGuard 0x0008 popP2C))

/-- W.C_MBOX_RX: ignored (R260). -/
def execWCMboxRx (v : Word) (s : State) : Host.Outcome State Fault Refusal :=
  .next (s.ignoredWrite .c (.wCMboxRx v))

/-- R.C_MBOX_TX: returns 0 (R260). -/
def execRCMboxTx (s : State) : Host.Outcome State Fault Refusal :=
  .next (s.zeroRead .c .rCMboxTx)

/-- W.C_MBOX_TX: push into C2P (42_mailbox.md R246). -/
def execWCMboxTx (v : Word) (s : State) : Host.Outcome State Fault Refusal :=
  .next (s.access .c false (.wCMboxTx v) (pushC2P v))

/-- R.C_FAULT (R267). -/
def execRCFault (s : State) : Host.Outcome State Fault Refusal :=
  .next (s.statusRead .c s.fault.word)

/-- W.C_FAULT: ignored (R260). -/
def execWCFault (v : Word) (s : State) : Host.Outcome State Fault Refusal :=
  .next (s.ignoredWrite .c (.wCFault v))

/-- R.C_CTRL (R268). -/
def execRCCtrl (s : State) : Host.Outcome State Fault Refusal :=
  .next (s.access .c true .rCCtrl fun s => .done s (zextBool s.dispatchEn))

/-- W.C_CTRL (R268). -/
def execWCCtrl (v : Word) (s : State) : Host.Outcome State Fault Refusal :=
  .next (s.access .c false (.wCCtrl v) (ctrlWrite v))

/-- R.PALETTE on the C-port (R271). -/
def execRCPalette (k : BitVec 4) (s : State) : Host.Outcome State Fault Refusal :=
  .next (s.access .c true (.rCPalette k) (paletteRead k))

/-- W.PALETTE on the C-port (R270). -/
def execWCPalette (k : BitVec 4) (v : Word) (s : State) : Host.Outcome State Fault Refusal :=
  .next (s.access .c false (.wCPalette k v) (paletteWrite k v))

/-- R.LINEBUF on the C-port (R274). -/
def execRCLinebuf (i : BitVec 10) (s : State) : Host.Outcome State Fault Refusal :=
  .next (s.access .c true (.rCLinebuf i) (linebufReadC i))

/-- W.LINEBUF on the C-port: always faults (R275). -/
def execWCLinebuf (i : BitVec 10) (v : Word) (s : State) : Host.Outcome State Fault Refusal :=
  .next (s.access .c false (.wCLinebuf i v) (linebufWriteC i))

end Sys2Proof.Machine
end

