-- ==== Sys2Proof/Machine/Dispatcher.lean ====
section
/-! DEFINITION. The dispatcher D (spec 44_dispatcher.md): its pop, the operations of each command word,
the meanings of the five command words, and the issue of one operation. -/

namespace Sys2Proof.Machine

/-! ### The operations of a command word (R291) -/

/-- R292: NOP has none. -/
def nopOps : List (Half × Word) := []

/-- R293: C_DRAW_LINE with the row, then C_BUSY_CLR with 1. -/
def drawLineOps (row : Half) : List (Half × Word) :=
  [(0x0080, zextHalf row), (0x0004, 0x00000001)]

/-- R294: C_IDLE with IDLE, then C_INVERT with INVERT. -/
def setIdleOps (invert idle : Bool) : List (Half × Word) :=
  [(0x007C, zextBool idle), (0x0070, zextBool invert)]

/-- R295: C_SET_ADDRESS at (X0, Y0), C_STREAM_BEGIN, C_PIXEL with COLOR, C_STREAM_END. -/
def setPixelOps (cfg : Params) (color : Half) : List (Half × Word) :=
  [(0x0050, pairWord (truncHalf cfg.y0) (truncHalf cfg.x0)), (0x0054, 0), (0x0058, zextHalf color),
    (0x005C, 0)]

/-- R291: Ops(w). A reserved word has none: it faults when it is popped (R296). -/
def commandOps (cfg : Params) (w : Word) : List (Half × Word) :=
  match decodeCommand w with
  | .drawLine row => drawLineOps row
  | .setIdle invert idle => setIdleOps invert idle
  | .setPixel color => setPixelOps cfg color
  | _ => nopOps

/-! ### The phase (R290) -/

/-- D takes a command word: it is in WAIT_CMD, P2C is full, and the block is not faulted. -/
def State.dispatcherReady (s : State) : Bool :=
  !s.faulted && s.phase = .waitCmd && s.p2c.isSome

/-- EXEC(w, k), or WAIT_CMD when the `n` operations are all complete (R290). -/
def execPhase (w : Word) (n k : Nat) : Phase :=
  if n ≤ k then .waitCmd else .exec w k false

/-- R290: the pop of command word `w`, whose operations are `ops`. In a state in which D takes no
command word this is no step (log 18). -/
def State.takeCommand (s : State) (w : Word) (ops : List (Half × Word)) : State :=
  if s.dispatcherReady then { s with p2c := none, phase := execPhase w ops.length 0 } else s

/-- R290: the operation that D issued completes. -/
def State.dispatcherDone (s : State) : State :=
  match s.phase with
  | .exec w k _ => { s with phase := execPhase w (commandOps s.cfg w).length (k + 1) }
  | .off => s
  | .waitCmd => s

/-! ### The command words -/

/-- NOP (R292). -/
def execNop (s : State) : Host.Outcome State Fault Refusal :=
  .next (s.takeCommand 0x00000000 nopOps)

/-- DRAW_LINE(row) (R293). -/
def execDrawLine (row : Half) (s : State) : Host.Outcome State Fault Refusal :=
  .next (s.takeCommand (drawLineWord row) (drawLineOps row))

/-- SET_IDLE(mode) (R294). -/
def execSetIdle (invert idle : Bool) (s : State) : Host.Outcome State Fault Refusal :=
  .next (s.takeCommand (setIdleWord invert idle) (setIdleOps invert idle))

/-- SET_PIXEL(value) (R295). -/
def execSetPixel (color : Half) (s : State) : Host.Outcome State Fault Refusal :=
  .next (s.takeCommand (setPixelWord color) (setPixelOps s.cfg color))

/-- A reserved word (R296): the pop stands, and BAD_COMMAND is raised with DISP = 1. The phase stays
WAIT_CMD (log 9). -/
def execReservedCommand (_w : Word) (s : State) : Host.Outcome State Fault Refusal :=
  .next
    (if s.dispatcherReady then
      ({ s with p2c := none } : State).raiseFault ⟨.badCommand, 0x0008⟩ true true
    else s)

/-! ### Issuing an operation (R297) -/

/-- The rule of an internal C-port write of `v` at `off`, without the owner restriction. R291 names
only these eight offsets; any other completes with no effect (log 24). -/
def dispatcherOp (off : Half) (v : Word) (s : State) : Effect :=
  match off.toNat with
  | 0x0004 => busyClear v s
  | 0x0050 => linkSetAddress v s
  | 0x0054 => linkStreamBegin s
  | 0x0058 => linkPixel v s
  | 0x005C => linkStreamEnd s
  | 0x0070 => linkInvert v s
  | 0x007C => linkIdle v s
  | 0x0080 => linkDrawLine v s
  | _ => .done s 0

/-- D issues operation (off, v), which is ops[k] of `w`. One that queues no event completes at once; a
failing check faults with PORT = 1 and DISP = 1. -/
def State.dispatcherIssue (s : State) (w : Word) (k : Nat) (off : Half) (v : Word) : State :=
  match dispatcherOp off v s with
  | .done s' _ => s'.dispatcherDone
  | .hold => s
  | .start s' [] => s'.dispatcherDone
  | .start s' (q :: r) =>
    { s'.enqueue (markEnd .disp (q :: r)) with phase := .exec w k true }
  | .trap t => s.raiseFault t true true

/-- A step of D in EXEC(w, k): it issues ops[k] unless that operation is outstanding. -/
def State.dispatcherExec (s : State) (w : Word) (k : Nat) (issued : Bool) : State :=
  if issued then s
  else
    match (commandOps s.cfg w)[k]? with
    | some (off, v) => s.dispatcherIssue w k off v
    | none => { s with phase := .waitCmd }

end Sys2Proof.Machine
end

