-- ==== Sys2Proof/Machine/Receiver.lean ====
section
/-! DEFINITION. The reference receiver (spec 41_panel_receiver.md): what the wire events do to the
panel, and the meanings of the 15 panel wire commands (R208 to R221). -/

namespace Sys2Proof.Machine

/-! ### The record -/

/-- The index of the panel cell (col, row) in the frame memory (log 21). -/
def cellIndex (col row : Half) : Nat := row.toNat * 65536 + col.toNat

/-- R204: the reset defaults; the frame memory is kept. -/
def resetDefaults (cfg : Params) (gram : Memory Half) : PanelRec :=
  { sleep := true
    displayOn := false
    invert := false
    idle := false
    normal := true
    colmod := cfg.colmodReset
    madctl := 0x00
    xs := 0
    xe := truncHalf (cfg.rcvResetW - 1)
    ys := 0
    ye := truncHalf (cfg.rcvResetH - 1)
    cx := 0
    cy := 0
    ctx := .none
    gram := gram }

/-- The reset defaults after a state that may be UNKNOWN: nothing is known of the frame memory of an
UNKNOWN panel (log 16). -/
def resetKnown (cfg : Params) (k : Option PanelRec) : PanelRec :=
  resetDefaults cfg (match k with
    | some r => r.gram
    | none => [])

/-- R200: the number of parameter bytes of a command that collects them. -/
def ParamCmd.count : ParamCmd → Nat
  | .caset => 4
  | .raset => 4
  | .madctl => 1
  | .colmod => 1

/-- R207 step 1: a command byte ends the current context. A pending high byte is discarded; a PARAMS
context that is short of its bytes makes the state UNKNOWN. -/
def PanelRec.endContext (r : PanelRec) : Option PanelRec :=
  match r.ctx with
  | .none => some r
  | .memWrite _ => some { r with ctx := .none }
  | .params cmd got => if got.length < cmd.count then none else some { r with ctx := .none }

/-- R215: the cursor after a pixel: along the row, then to the next row, and back to (xs, ys). -/
def PanelRec.advance (r : PanelRec) : PanelRec :=
  if r.cx.toNat < r.xe.toNat then { r with cx := r.cx + 1 }
  else { r with cx := r.xs, cy := if r.cy.toNat < r.ye.toNat then r.cy + 1 else r.ys }

/-- R219: a complete window range; UNKNOWN if it is inverted or out of the panel. -/
def PanelRec.setColumns (cfg : Params) (r : PanelRec) (s e : Half) : Option PanelRec :=
  if e.toNat < s.toNat ∨ cfg.panelW ≤ e.toNat then none
  else some { r with xs := s, xe := e, ctx := .none }

/-- R219 for RASET. -/
def PanelRec.setRows (cfg : Params) (r : PanelRec) (s e : Half) : Option PanelRec :=
  if e.toNat < s.toNat ∨ cfg.panelH ≤ e.toNat then none
  else some { r with ys := s, ye := e, ctx := .none }

/-- R219 to R221: a parameter byte arrives; `got` are the bytes before it. -/
def PanelRec.param (cfg : Params) (r : PanelRec) (cmd : ParamCmd) (got : List Byte) (b : Byte) :
    Option PanelRec :=
  match cmd, got with
  | .caset, [p1, p2, p3] => r.setColumns cfg (joinBytes p1 p2) (joinBytes p3 b)
  | .raset, [p1, p2, p3] => r.setRows cfg (joinBytes p1 p2) (joinBytes p3 b)
  | .madctl, _ => some { r with madctl := b, ctx := .none }
  | .colmod, _ => some { r with colmod := b, ctx := .none }
  | .caset, _ => some { r with ctx := .params .caset (got ++ [b]) }
  | .raset, _ => some { r with ctx := .params .raset (got ++ [b]) }

/-- R215, R221: a data byte of a memory write. A pixel whose cursor stands outside the cells of R201 is
stored at that cursor as any other (DESIGN CHOICE, log 28). -/
def PanelRec.pixelByte (cfg : Params) (r : PanelRec) (pending : Option Byte) (b : Byte) :
    Option PanelRec :=
  if r.colmod ≠ cfg.colmod16bpp then none
  else
    match pending with
    | none => some { r with ctx := .memWrite (some b) }
    | some hi =>
      some (PanelRec.advance
        { r with
          gram := r.gram.write (cellIndex r.cx r.cy) (joinBytes hi b)
          ctx := .memWrite none })

/-- R215, R219 to R222: a data byte in the record's context. -/
def PanelRec.data (cfg : Params) (r : PanelRec) (b : Byte) : Option PanelRec :=
  match r.ctx with
  | .none => some r
  | .params cmd got => r.param cfg cmd got b
  | .memWrite pending => r.pixelByte cfg pending b

/-! ### The panel -/

/-- R203: a data byte while RSTn holds the panel in reset is ignored; R202: UNKNOWN stays UNKNOWN. -/
def Panel.data (cfg : Params) (p : Panel) (b : Byte) : Panel :=
  if p.inReset then p
  else
    { p with
      known := match p.known with
        | none => none
        | some r => r.data cfg b }

/-- R203: RSTn. Its release after a low level applies the reset defaults. -/
def Panel.rst (cfg : Params) (p : Panel) (l : Bool) : Panel :=
  if !l then { p with inReset := true }
  else if p.inReset then { p with inReset := false, known := some (resetKnown cfg p.known) }
  else p

/-- R205, R206: the events that carry no byte. -/
def Panel.lineEvent (cfg : Params) (p : Panel) : WireEvent → Panel
  | .rst l => p.rst cfg l
  | .bl l => { p with bl := l }
  | .cs _ => p
  | .wait _ => p
  | .cmd _ => p
  | .dat b => p.data cfg b

/-- The record at a command byte, its context ended (R207 step 1). -/
def Panel.atCommand (p : Panel) : Option PanelRec :=
  match p.known with
  | none => none
  | some r => r.endContext

/-- R207 step 2: a command byte outside the table of R200. -/
def Panel.unknownCommand (p : Panel) : Panel :=
  if p.inReset then p else { p with known := none }

/-- R207: a command byte, ignored while the panel is held in reset (R203). -/
def Panel.command (p : Panel) (f : Option PanelRec → Option PanelRec) : Panel :=
  if p.inReset then p else { p with known := f p.atCommand }

/-- R207 step 3 for a command that only changes the record: UNKNOWN stays UNKNOWN (R202). -/
def State.wireCommand (s : State) (f : PanelRec → PanelRec) : State :=
  { s with panel := s.panel.command fun k => match k with
      | none => none
      | some r => some (f r) }

/-! ### The wire commands -/

/-- SWRESET (R208): the reset defaults, also from UNKNOWN (R202). -/
def execSwreset (s : State) : Host.Outcome State Fault Refusal :=
  .next { s with panel := s.panel.command fun k => some (resetKnown s.cfg k) }

/-- SLPIN (R209). -/
def execSlpin (s : State) : Host.Outcome State Fault Refusal :=
  .next (s.wireCommand fun r => { r with sleep := true })

/-- SLPOUT (R210). -/
def execSlpout (s : State) : Host.Outcome State Fault Refusal :=
  .next (s.wireCommand fun r => { r with sleep := false })

/-- NORON (R211). -/
def execNoron (s : State) : Host.Outcome State Fault Refusal :=
  .next (s.wireCommand fun r => { r with normal := true })

/-- INVOFF (R212). -/
def execInvoff (s : State) : Host.Outcome State Fault Refusal :=
  .next (s.wireCommand fun r => { r with invert := false })

/-- INVON (R213). -/
def execInvon (s : State) : Host.Outcome State Fault Refusal :=
  .next (s.wireCommand fun r => { r with invert := true })

/-- DISPOFF (R216). -/
def execDispoff (s : State) : Host.Outcome State Fault Refusal :=
  .next (s.wireCommand fun r => { r with displayOn := false })

/-- DISPON (R216). -/
def execDispon (s : State) : Host.Outcome State Fault Refusal :=
  .next (s.wireCommand fun r => { r with displayOn := true })

/-- CASET (R219): four parameter bytes follow. -/
def execCaset (s : State) : Host.Outcome State Fault Refusal :=
  .next (s.wireCommand fun r => { r with ctx := .params .caset [] })

/-- RASET (R219): four parameter bytes follow. -/
def execRaset (s : State) : Host.Outcome State Fault Refusal :=
  .next (s.wireCommand fun r => { r with ctx := .params .raset [] })

/-- RAMWR (R214): the memory write starts at the window's first cell. -/
def execRamwr (s : State) : Host.Outcome State Fault Refusal :=
  .next (s.wireCommand fun r => { r with ctx := .memWrite none, cx := r.xs, cy := r.ys })

/-- MADCTL (R220): one parameter byte follows. -/
def execMadctl (s : State) : Host.Outcome State Fault Refusal :=
  .next (s.wireCommand fun r => { r with ctx := .params .madctl [] })

/-- IDMOFF (R217). -/
def execIdmoff (s : State) : Host.Outcome State Fault Refusal :=
  .next (s.wireCommand fun r => { r with idle := false })

/-- IDMON (R218). -/
def execIdmon (s : State) : Host.Outcome State Fault Refusal :=
  .next (s.wireCommand fun r => { r with idle := true })

/-- COLMOD (R221): one parameter byte follows. -/
def execColmod (s : State) : Host.Outcome State Fault Refusal :=
  .next (s.wireCommand fun r => { r with ctx := .params .colmod [] })

end Sys2Proof.Machine
end

