-- ==== Sys2Proof/Machine/Engine.lean ====
section
/-! DEFINITION. The engine E (spec 40_panellink.md R145): what performing one entry of the op queue does
to the block, and how the interleaving selects what the next step runs. -/

namespace Sys2Proof.Machine

/-- R145: the operation that `who` issued completes. -/
def State.operationDone (s : State) : Option Issuer → State
  | none => s
  | some .port => s.complete .c none
  | some .disp => s.dispatcherDone

/-- R145, R153: E performs entry `q`: the event stands at the end of the trace, the pins take its
levels, and what it completes is completed. The panel is told of it by the caller. -/
def State.perform (s : State) (q : QItem) : State :=
  ({ s with
      trace := s.trace ++ [q.ev]
      pins := s.pins.afterItem q
      initDone := s.initDone || q.endsInit } : State).operationDone q.ends

/-- The access on port `pid` that is held and whose condition is true: it is performed at this instant
(20_memory.md R78). -/
def State.readyAt (s : State) (pid : PortId) : Option Instr :=
  match (s.port pid).hold with
  | some (.read i) => if holdReady s i then some i else none
  | some (.write i) => if holdReady s i then some i else none
  | some .link => none
  | none => none

/-- The held access to perform now, with its port: at most one port's condition is made true by one
step of a run; the P-port is looked at first (log 2). -/
def State.readyHeld (s : State) : Option (PortId × Instr) :=
  match s.readyAt .p with
  | some i => some (.p, i)
  | none =>
    match s.readyAt .c with
    | some i => some (.c, i)
    | none => none

/-- The access that the host of port `pid` issues at its turn, and the state in which it has issued it.
A host whose access is held issues nothing (10_state.md R37). -/
def State.nextAccess (s : State) (pid : PortId) : Option (Access × State) :=
  match (s.port pid).hold, (s.port pid).reqs with
  | none, a :: rest => some (a, s.setPort pid { s.port pid with reqs := rest })
  | none, [] => none
  | some _, _ => none

/-- The operation an access of port `pid` names (30_encoding.md R101). -/
def State.decodeAccess (s : State) (pid : PortId) (a : Access) : Except DecodeError Instr :=
  decodeOffset s.cfg.lineW a.width pid.bit a.write a.off a.data

/-- The entry that E performs at its turn, and the state in which it is off the queue. E takes no step
with an empty queue (R145) or while the block is faulted (60_exceptions.md R312). -/
def State.nextItem (s : State) : Option (QItem × State) :=
  if s.faulted then none
  else
    match s.opQueue with
    | [] => none
    | q :: rest => some (q, { s with opQueue := rest })

end Sys2Proof.Machine
end

