-- ==== Sys2Proof/Machine/PPort.lean ====
section
/-! DEFINITION. The meanings of the 14 P-port accesses (spec 30_encoding.md R110). -/

namespace Sys2Proof.Machine

/-- R.P_STATUS (43_busy_status.md R261). -/
def execRPStatus (s : State) : Host.Outcome State Fault Refusal :=
  .next (s.statusRead .p s.pStatus)

/-- W.P_STATUS: ignored (R260). -/
def execWPStatus (v : Word) (s : State) : Host.Outcome State Fault Refusal :=
  .next (s.ignoredWrite .p (.wPStatus v))

/-- R.P_BUSY (R263). -/
def execRPBusy (s : State) : Host.Outcome State Fault Refusal :=
  .next (s.access .p true .rPBusy fun s => .done s (zextBool s.busy))

/-- W.P_BUSY, mark_busy(): write 1 to set (R264). -/
def execWPBusy (v : Word) (s : State) : Host.Outcome State Fault Refusal :=
  .next (s.access .p false (.wPBusy v) fun s =>
    .done (if boolOperand v then { s with busy := true } else s) 0)

/-- R.P_MBOX_TX: returns 0 (R260). -/
def execRPMboxTx (s : State) : Host.Outcome State Fault Refusal :=
  .next (s.zeroRead .p .rPMboxTx)

/-- W.P_MBOX_TX, send (42_mailbox.md R241 to R244). -/
def execWPMboxTx (v : Word) (s : State) : Host.Outcome State Fault Refusal :=
  .next (s.access .p false (.wPMboxTx v) (pushP2C v))

/-- R.P_MBOX_RX: pop of C2P (42_mailbox.md R247). -/
def execRPMboxRx (s : State) : Host.Outcome State Fault Refusal :=
  .next (s.access .p true .rPMboxRx popC2P)

/-- W.P_MBOX_RX: ignored (R260). -/
def execWPMboxRx (v : Word) (s : State) : Host.Outcome State Fault Refusal :=
  .next (s.ignoredWrite .p (.wPMboxRx v))

/-- R.P_FAULT (R267). -/
def execRPFault (s : State) : Host.Outcome State Fault Refusal :=
  .next (s.statusRead .p s.fault.word)

/-- W.P_FAULT: ignored (R260). -/
def execWPFault (v : Word) (s : State) : Host.Outcome State Fault Refusal :=
  .next (s.ignoredWrite .p (.wPFault v))

/-- R.PALETTE on the P-port (R271). -/
def execRPPalette (k : BitVec 4) (s : State) : Host.Outcome State Fault Refusal :=
  .next (s.access .p true (.rPPalette k) (paletteRead k))

/-- W.PALETTE on the P-port (R270). -/
def execWPPalette (k : BitVec 4) (v : Word) (s : State) : Host.Outcome State Fault Refusal :=
  .next (s.access .p false (.wPPalette k v) (paletteWrite k v))

/-- R.LINEBUF on the P-port (R273). -/
def execRPLinebuf (i : BitVec 10) (s : State) : Host.Outcome State Fault Refusal :=
  .next (s.access .p true (.rPLinebuf i) (linebufReadP i))

/-- W.LINEBUF on the P-port (R272). -/
def execWPLinebuf (i : BitVec 10) (v : Word) (s : State) : Host.Outcome State Fault Refusal :=
  .next (s.access .p false (.wPLinebuf i v) (linebufWriteP i v))

end Sys2Proof.Machine
end

