-- ==== Sys2Proof/Machine/Dispatch.lean ====
section
/-! DEFINITION. One arm for each operation of the table. -/

namespace Sys2Proof.Machine

/-- The meaning of an operation. -/
def exec (i : Instr) (s : State) : Host.Outcome State Fault Refusal :=
  match i with
  | .rPStatus => Sys2Proof.Machine.execRPStatus s
  | .wPStatus v => Sys2Proof.Machine.execWPStatus v s
  | .rPBusy => Sys2Proof.Machine.execRPBusy s
  | .wPBusy v => Sys2Proof.Machine.execWPBusy v s
  | .rPMboxTx => Sys2Proof.Machine.execRPMboxTx s
  | .wPMboxTx v => Sys2Proof.Machine.execWPMboxTx v s
  | .rPMboxRx => Sys2Proof.Machine.execRPMboxRx s
  | .wPMboxRx v => Sys2Proof.Machine.execWPMboxRx v s
  | .rPFault => Sys2Proof.Machine.execRPFault s
  | .wPFault v => Sys2Proof.Machine.execWPFault v s
  | .rPPalette k => Sys2Proof.Machine.execRPPalette k s
  | .wPPalette k v => Sys2Proof.Machine.execWPPalette k v s
  | .rPLinebuf ix => Sys2Proof.Machine.execRPLinebuf ix s
  | .wPLinebuf ix v => Sys2Proof.Machine.execWPLinebuf ix v s
  | .rCStatus => Sys2Proof.Machine.execRCStatus s
  | .wCStatus v => Sys2Proof.Machine.execWCStatus v s
  | .rCBusyClr => Sys2Proof.Machine.execRCBusyClr s
  | .wCBusyClr v => Sys2Proof.Machine.execWCBusyClr v s
  | .rCMboxRx => Sys2Proof.Machine.execRCMboxRx s
  | .wCMboxRx v => Sys2Proof.Machine.execWCMboxRx v s
  | .rCMboxTx => Sys2Proof.Machine.execRCMboxTx s
  | .wCMboxTx v => Sys2Proof.Machine.execWCMboxTx v s
  | .rCFault => Sys2Proof.Machine.execRCFault s
  | .wCFault v => Sys2Proof.Machine.execWCFault v s
  | .rCCtrl => Sys2Proof.Machine.execRCCtrl s
  | .wCCtrl v => Sys2Proof.Machine.execWCCtrl v s
  | .rCInit => Sys2Proof.Machine.execRCInit s
  | .wCInit v => Sys2Proof.Machine.execWCInit v s
  | .rCWinCol => Sys2Proof.Machine.execRCWinCol s
  | .wCWinCol v => Sys2Proof.Machine.execWCWinCol v s
  | .rCWinRow => Sys2Proof.Machine.execRCWinRow s
  | .wCWinRow v => Sys2Proof.Machine.execWCWinRow v s
  | .rCWinApply => Sys2Proof.Machine.execRCWinApply s
  | .wCWinApply v => Sys2Proof.Machine.execWCWinApply v s
  | .rCSetAddress => Sys2Proof.Machine.execRCSetAddress s
  | .wCSetAddress v => Sys2Proof.Machine.execWCSetAddress v s
  | .rCStreamBegin => Sys2Proof.Machine.execRCStreamBegin s
  | .wCStreamBegin v => Sys2Proof.Machine.execWCStreamBegin v s
  | .rCPixel => Sys2Proof.Machine.execRCPixel s
  | .wCPixel v => Sys2Proof.Machine.execWCPixel v s
  | .rCStreamEnd => Sys2Proof.Machine.execRCStreamEnd s
  | .wCStreamEnd v => Sys2Proof.Machine.execWCStreamEnd v s
  | .rCFillColor => Sys2Proof.Machine.execRCFillColor s
  | .wCFillColor v => Sys2Proof.Machine.execWCFillColor v s
  | .rCFillXY => Sys2Proof.Machine.execRCFillXY s
  | .wCFillXY v => Sys2Proof.Machine.execWCFillXY v s
  | .rCFillWH => Sys2Proof.Machine.execRCFillWH s
  | .wCFillWH v => Sys2Proof.Machine.execWCFillWH v s
  | .rCFillGo => Sys2Proof.Machine.execRCFillGo s
  | .wCFillGo v => Sys2Proof.Machine.execWCFillGo v s
  | .rCInvert => Sys2Proof.Machine.execRCInvert s
  | .wCInvert v => Sys2Proof.Machine.execWCInvert v s
  | .rCPower => Sys2Proof.Machine.execRCPower s
  | .wCPower v => Sys2Proof.Machine.execWCPower v s
  | .rCBacklight => Sys2Proof.Machine.execRCBacklight s
  | .wCBacklight v => Sys2Proof.Machine.execWCBacklight v s
  | .rCIdle => Sys2Proof.Machine.execRCIdle s
  | .wCIdle v => Sys2Proof.Machine.execWCIdle v s
  | .rCDrawLine => Sys2Proof.Machine.execRCDrawLine s
  | .wCDrawLine v => Sys2Proof.Machine.execWCDrawLine v s
  | .rCPalette k => Sys2Proof.Machine.execRCPalette k s
  | .wCPalette k v => Sys2Proof.Machine.execWCPalette k v s
  | .rCLinebuf ix => Sys2Proof.Machine.execRCLinebuf ix s
  | .wCLinebuf ix v => Sys2Proof.Machine.execWCLinebuf ix v s
  | .nop => Sys2Proof.Machine.execNop s
  | .drawLine row => Sys2Proof.Machine.execDrawLine row s
  | .setIdle invert idle => Sys2Proof.Machine.execSetIdle invert idle s
  | .setPixel color => Sys2Proof.Machine.execSetPixel color s
  | .reservedCommand w => Sys2Proof.Machine.execReservedCommand w s
  | .swreset => Sys2Proof.Machine.execSwreset s
  | .slpin => Sys2Proof.Machine.execSlpin s
  | .slpout => Sys2Proof.Machine.execSlpout s
  | .noron => Sys2Proof.Machine.execNoron s
  | .invoff => Sys2Proof.Machine.execInvoff s
  | .invon => Sys2Proof.Machine.execInvon s
  | .dispoff => Sys2Proof.Machine.execDispoff s
  | .dispon => Sys2Proof.Machine.execDispon s
  | .caset => Sys2Proof.Machine.execCaset s
  | .raset => Sys2Proof.Machine.execRaset s
  | .ramwr => Sys2Proof.Machine.execRamwr s
  | .madctl => Sys2Proof.Machine.execMadctl s
  | .idmoff => Sys2Proof.Machine.execIdmoff s
  | .idmon => Sys2Proof.Machine.execIdmon s
  | .colmod => Sys2Proof.Machine.execColmod s

end Sys2Proof.Machine
end

