-- ==== Sys2Proof/Machine/Step.lean ====
section
/-! DEFINITION. One step of the machine (spec 20_memory.md R78, 60_exceptions.md R321).

A held access whose condition is true is performed first. Else the agent whose turn it is takes its
step: P or C issues its next access (format FA), D takes the word in P2C (format FC) or issues an
operation, E performs the head of the op queue, whose command byte the panel takes (format FW), or the
platform resets the block. An agent that has no step to take leaves the state as it is. -/

namespace Sys2Proof.Machine

/-- The host of port `pid` has the turn. -/
def stepHost (pid : PortId) (s : State) : Host.Outcome State Fault Refusal :=
  match s.nextAccess pid with
  | none => .next s
  | some (a, s') =>
    match s.decodeAccess pid a with
    | .ok i => exec i s'
    | .error e => .next (s'.refuseAccess pid a e)

/-- D has the turn (44_dispatcher.md R290). It takes no step while the block is faulted
(60_exceptions.md R312). -/
def stepDispatcher (s : State) : Host.Outcome State Fault Refusal :=
  if s.faulted then .next s
  else
    match s.phase, s.p2c with
    | .off, _ => .next s
    | .waitCmd, none => .next s
    | .waitCmd, some w => exec (decodeCommand w) s
    | .exec w k issued, _ => .next (s.dispatcherExec w k issued)

/-- E has the turn (40_panellink.md R145). The panel is told of the event: of a command byte by the
meaning of the wire command it names (41_panel_receiver.md R207), of another event directly. -/
def stepEngine (s : State) : Host.Outcome State Fault Refusal :=
  match s.nextItem with
  | none => .next s
  | some (q, s') =>
    match q.ev with
    | .cmd b =>
      match decodeWire b with
      | .ok i => exec i (s'.perform q)
      | .error _ => .next { s'.perform q with panel := s.panel.unknownCommand }
    | ev => .next { s'.perform q with panel := s.panel.lineEvent s.cfg ev }

/-- The turn of one agent, or of the block reset. -/
def stepTurn (t : Turn) (s : State) : Host.Outcome State Fault Refusal :=
  match t with
  | .p => stepHost .p s
  | .c => stepHost .c s
  | .d => stepDispatcher s
  | .e => stepEngine s
  | .reset => .next s.blockReset

/-- One step. With no turn left the machine stays as it is (log 1). -/
def step (s : State) : Host.Outcome State Fault Refusal :=
  match s.readyHeld with
  | some (pid, i) => exec i (s.release pid)
  | none =>
    match s.turns with
    | [] => .next s
    | t :: rest => stepTurn t { s with turns := rest }

/-- `s` with access `a` as the next one that the host of port `pid` issues, and its turn next. -/
def State.withAccess (s : State) (pid : PortId) (a : Access) : State :=
  let s' : State := (s.release .p).release .c
  { s'.setPort pid { s'.port pid with reqs := a :: (s'.port pid).reqs } with
    turns := (match pid with
      | .p => .p
      | .c => .c) :: s.turns }

/-- `s` with command word `w` in P2C of an enabled, waiting dispatcher, and D's turn next. -/
def State.withCommand (s : State) (w : Word) : State :=
  { (s.release .p).release .c with
    fault := FaultLatch.none
    dispatchEn := true
    phase := .waitCmd
    p2c := some w
    turns := .d :: s.turns }

/-- `s` with command byte `b` at the head of the op queue, and E's turn next. -/
def State.withWireByte (s : State) (b : Byte) : State :=
  { (s.release .p).release .c with
    fault := FaultLatch.none
    opQueue := { ev := .cmd b } :: s.opQueue
    turns := .e :: s.turns }

/-- `s` with an opcode-table word where the next step fetches it (log 3, log 27): an access as its
host's next, a command word in P2C, a wire byte at the head of the op queue. A word of no format
changes nothing. -/
def State.withFetchWord (s : State) (nbits w : Nat) : State :=
  match Code.ofTable nbits w with
  | none => s
  | some (.access width A D) =>
    s.withAccess (if A.getLsbD 17 then .c else .p)
      { width := width, write := A.getLsbD 16, off := A.extractLsb' 0 16, data := D }
  | some (.command v) => s.withCommand v
  | some (.wire b) => s.withWireByte b

end Sys2Proof.Machine
end

