-- ==== Sys2Proof/Safety.lean ====
section
/-! DEFINITION. The terms that statements about the machine use: what a run is, what is read of the
panel, the sums of 70_reset_and_hazards.md R360, and the invariants of a sound state. -/

namespace Sys2Proof.Machine

/-! ### Observations -/

/-- What the panel holds at a cell: none while the panel is UNKNOWN or the cell `unspecified`
(41_panel_receiver.md R201). -/
def State.gramAt (s : State) (col row : Half) : Option Half :=
  match s.panel.known with
  | none => none
  | some r => r.gram.read (cellIndex col row)

/-- `n` turns of E, and no other agent's. -/
def State.engineTurns (s : State) (n : Nat) : State := { s with turns := List.replicate n .e }

/-- The minimum settle time of an event list, in milliseconds (70_reset_and_hazards.md R360). -/
def settleMs : List QItem → Nat
  | [] => 0
  | q :: r =>
    (match q.ev with
      | .wait n => n
      | _ => 0) + settleMs r

/-- The bytes an event list shifts out (70_reset_and_hazards.md R360). -/
def spiBytes : List QItem → Nat
  | [] => 0
  | q :: r =>
    (match q.ev with
      | .cmd _ => 1
      | .dat _ => 1
      | _ => 0) + spiBytes r

/-- The bits that the panel samples in a list of pin levels: MOSI wherever SCK is 1
(40_panellink.md R141). -/
def sampledBits (w : List Pins) : List Bool := (w.filter (·.sck)).map (·.mosi)

/-! ### What an access does, in full

Each of these names the whole next state, so what is not written is unchanged. -/

/-- The P-port accepts an access and the block is not faulted. -/
abbrev State.ReadyP (s : State) : Prop := s.portP.hold = none ∧ s.faulted = false

/-- The C-port accepts an access and the block is not faulted. -/
abbrev State.ReadyC (s : State) : Prop := s.portC.hold = none ∧ s.faulted = false

/-- Agent C may use the link engine: the C-port is ready and no dispatcher owns it
(43_busy_status.md R269). -/
abbrev State.OwnedByC (s : State) : Prop := s.ReadyC ∧ s.dispatchEn = false

/-- Access `i` of the P-port completes at once: the block goes to `s'` and the host gets `ans`. -/
abbrev AnswersP (i : Instr) (s s' : State) (ans : Option Word) : Prop :=
  exec i s = .next { s' with portP := { s.portP with hold := none, answer := ans } }

/-- Access `i` of the C-port completes at once: the block goes to `s'` and the host gets `ans`. -/
abbrev AnswersC (i : Instr) (s s' : State) (ans : Option Word) : Prop :=
  exec i s = .next { s' with portC := { s.portC with hold := none, answer := ans } }

/-- The events of a stream frame with what each does to DC: the one that opens the frame drives DC to 1
first (40_panellink.md R158), no other does. -/
def streamMarks : List WireEvent → List (WireEvent × Bool)
  | [] => []
  | e :: r => (e, true) :: r.map (·, false)

/-- Access `i` of the C-port is issued: the block goes to `s'` with exactly the events `evs`, and behind
them those of the stream frame `stream`, queued behind those pending. The last of them completes the
access, for which the C-port holds (40_panellink.md R145); it sets INIT_DONE if `inits`, and no other
does (R153); only the event that opens the stream frame drives DC to 1 (R158). -/
def IssuesC (i : Instr) (s s' : State) (evs : List WireEvent) (stream : List WireEvent := [])
    (inits : Bool := false) : Prop :=
  ∃ (q : List QItem) (last : QItem),
    (q ++ [last]).map (fun x => (x.ev, x.dataMode)) = evs.map (·, false) ++ streamMarks stream ∧
    last.ends = some .port ∧ last.endsInit = inits ∧
    (∀ x ∈ q, x.ends = none ∧ x.endsInit = false) ∧
    exec i s = .next { s' with
      opQueue := s.opQueue ++ (q ++ [last])
      portC := { s.portC with hold := some .link } }

/-- Access `i` of the C-port queues events with `ms` milliseconds of settle time and `bytes` bytes to
shift out (70_reset_and_hazards.md R360). -/
def TakesC (i : Instr) (s : State) (ms bytes : Nat) : Prop :=
  ∃ (t : State) (q : List QItem), exec i s = .next t ∧ t.opQueue = s.opQueue ++ q ∧
    settleMs q = ms ∧ spiBytes q = bytes

/-- Access `i` of the P-port faults (60_exceptions.md R311, R314). -/
abbrev RaisesP (i : Instr) (s : State) (code : Byte) (off : Half) (ans : Option Word) : Prop :=
  exec i s = .next { s with
    fault := { code := code, port := false, disp := false, offset := off }
    opQueue := []
    portP := { s.portP with hold := none, answer := ans }
    portC := s.portC.dropHeld }

/-- Access `i` of the C-port, made by agent C, faults (60_exceptions.md R311, R314). -/
abbrev RaisesC (i : Instr) (s : State) (code : Byte) (off : Half) (ans : Option Word) : Prop :=
  exec i s = .next { s with
    fault := { code := code, port := true, disp := false, offset := off }
    opQueue := []
    portP := s.portP.dropHeld
    portC := { s.portC with hold := none, answer := ans } }

/-- At D's turn, the first of `s.turns`, the operation that D issues faults: the latch records D and the
operation's or element's offset, nothing is queued, held accesses end, and the turn is used up; nothing
else changes (60_exceptions.md R311, R314, 44_dispatcher.md R297). -/
abbrev RaisesD (s : State) (ts : List Turn) (code : Byte) (off : Half) : Prop :=
  step s = .next { s with
    turns := ts
    fault := { code := code, port := true, disp := true, offset := off }
    opQueue := []
    portP := s.portP.dropHeld
    portC := s.portC.dropHeld }

/-- Element `j` of the line buffer maps: it is written, its bits [7:4] are 0, and the palette entry it
names is written (40_panellink.md R170). -/
abbrev State.Maps (s : State) (j : Nat) : Prop :=
  ∃ e c, s.linebuf.read j = some e ∧ e.extractLsb' 4 4 = 0 ∧
    s.palette.read (e.extractLsb' 0 4).toNat = some c

/-- The wire events of a window (40_panellink.md R150), byte by byte. -/
def windowWire (cs ce rs re : Half) : List WireEvent :=
  [.cs false, .cmd 0x2A, .dat (highByte cs), .dat (lowByte cs), .dat (highByte ce),
    .dat (lowByte ce), .cs true,
    .cs false, .cmd 0x2B, .dat (highByte rs), .dat (lowByte rs), .dat (highByte re),
    .dat (lowByte re), .cs true,
    .cs false, .cmd 0x2C, .cs true]

/-- The wire events of a stream frame of these colours (40_panellink.md R143, R164, R169). -/
def streamWire (colors : List Half) : List WireEvent :=
  .cs false :: colors.flatMap (fun c => [.dat (highByte c), .dat (lowByte c)]) ++ [.cs true]

/-! ### Invariants -/

/-- The stores have their canonical form, the line buffer lists only elements below LINE_W and the
palette only its 16 entries (10_state.md R33, R34). -/
abbrev State.StoresWf (s : State) : Prop :=
  s.linebuf.wf = true ∧ s.palette.wf = true ∧
  (∀ a e, s.linebuf.read a = some e → a < s.cfg.lineW) ∧
  (∀ k c, s.palette.read k = some c → k < 16) ∧
  (∀ r, s.panel.known = some r → r.gram.wf = true)

/-- A faulted block is halted: no event is queued and no access is held (60_exceptions.md R311). -/
abbrev State.Halted (s : State) : Prop :=
  s.faulted = true → s.opQueue = [] ∧ s.portP.hold = none ∧ s.portC.hold = none

/-- The latch holds no code above 0x0E, and all zero when it holds none (60_exceptions.md R310, R311). -/
abbrev State.LatchSound (s : State) : Prop :=
  s.fault.code.toNat ≤ 0x0E ∧ (s.fault.code = 0 → s.fault = FaultLatch.none)

/-- Only a mailbox access waits for a condition, on its own port, and only the C-port waits for the
engine (42_mailbox.md, 40_panellink.md R145). -/
abbrev State.HoldsSound (s : State) : Prop :=
  (∀ h, s.portP.hold = some h → h = .read .rPMboxRx ∨ ∃ v, h = .write (.wPMboxTx v)) ∧
  (∀ h, s.portC.hold = some h → h = .read .rCMboxRx ∨ (∃ v, h = .write (.wCMboxTx v)) ∨ h = .link)

/-- The dispatcher's phase: OFF exactly while it is not enabled, and in EXEC(w, k) an operation ops[k]
of `w` that is outstanding only if it queues events (10_state.md R36, 44_dispatcher.md R290, R291). -/
abbrev State.PhaseSound (s : State) : Prop :=
  (s.phase = .off ↔ s.dispatchEn = false) ∧
  (∀ w k issued, s.phase = .exec w k issued →
    ∃ o, (commandOps s.cfg w)[k]? = some o ∧ (issued = true → o.1 ≠ 0x0004))

/-- The number of queued events that complete an operation of `who`. -/
def State.pendingEnds (s : State) (who : Issuer) : Nat :=
  s.opQueue.countP fun q => q.ends = some who

/-- Each issuer has at most one operation in the queue, and it is the one it waits for
(40_panellink.md R145, R146; 44_dispatcher.md R290). -/
abbrev State.EngineSound (s : State) : Prop :=
  s.pendingEnds .port = (if s.portC.hold = some .link then 1 else 0) ∧
  (s.faulted = false →
    s.pendingEnds .disp =
      match s.phase with
      | .exec _ _ true => 1
      | _ => 0)

/-- A word in P2C has locked the palette (42_mailbox.md R244), and FILL_COLOR's high half is zero
(40_panellink.md R161). -/
abbrev State.RegsSound (s : State) : Prop :=
  (s.p2c ≠ none → s.palLocked = true) ∧ highHalf s.fillColor = 0

/-- The panel's window is not inverted, the cursor of a memory write stands in the window, and a
command waits for the parameter bytes it is short of (41_panel_receiver.md R201, R214, R215, R219). -/
abbrev PanelRec.Sound (r : PanelRec) : Prop :=
  r.xs.toNat ≤ r.xe.toNat ∧ r.ys.toNat ≤ r.ye.toNat ∧
  (∀ pending, r.ctx = .memWrite pending →
    r.xs.toNat ≤ r.cx.toNat ∧ r.cx.toNat ≤ r.xe.toNat ∧
    r.ys.toNat ≤ r.cy.toNat ∧ r.cy.toNat ≤ r.ye.toNat) ∧
  (∀ cmd got, r.ctx = .params cmd got → got.length < cmd.count)

/-- The receiver's record, when it is known, is sound. -/
abbrev State.PanelSound (s : State) : Prop := ∀ r, s.panel.known = some r → r.Sound

/-- A sound state. -/
structure State.Inv (s : State) : Prop where
  stores : s.StoresWf
  halted : s.Halted
  latch : s.LatchSound
  holds : s.HoldsSound
  phase : s.PhaseSound
  engine : s.EngineSound
  regs : s.RegsSound
  panel : s.PanelSound

/-- The DRAW_LINE words that wait in P2C or that the dispatcher has popped and not yet freed. -/
def State.rowsInFlight (s : State) : Nat :=
  (match s.p2c with
    | some w => if commandTag w = 0x01#8 then 1 else 0
    | none => 0) +
  (match s.phase with
    | .exec w _ _ => if commandTag w = 0x01#8 then 1 else 0
    | _ => 0)

/-- 43_busy_status.md R276 with the dispatcher as the consumer: BUSY says that exactly one row is
between its push and its mark_free. -/
abbrev State.BusyExact (s : State) : Prop :=
  s.faulted = false → s.dispatchEn = true → s.rowsInFlight = if s.busy then 1 else 0

/-- 44_dispatcher.md R298: while the dispatcher runs, the stream is open exactly between its
C_STREAM_BEGIN and its C_STREAM_END. -/
abbrev State.StreamPaired (s : State) : Prop :=
  s.faulted = false → s.dispatchEn = true →
    (s.streamOpen = true ↔
      ∃ w k issued, s.phase = .exec w k issued ∧ commandTag w = 0x03#8 ∧
        ((k = 1 ∧ issued = true) ∨ k = 2 ∨ (k = 3 ∧ issued = false)))

end Sys2Proof.Machine
end

