-- ==== Sys2Proof/Certificates/Slice0/Obligations.lean ====
section
/-! DEFINITION. The statements for the provers. Each docstring names the rule of spec/ it formalises;
where a clause rests on a choice of the model it names the log entry. `AnswersP`, `AnswersC`,
`IssuesC`, `RaisesP` and `RaisesC` (Safety.lean) give the whole next state, so each of them says its
frame: what it does not name is unchanged. -/

open Sys2Proof Sys2Proof.Machine

/-! ### Encoding -/

/-- Decode and encode agree: every well-formed operation, with every operand at every value its
encoding admits, is what its code decodes to (30_encoding.md R100 to R104, R110, R111). -/
def Obligations.DecodeOfEncode : Prop :=
  ∀ (lineW : Nat) (i : Instr), i.wellFormed lineW = true → decode lineW (encode i) = .ok i

/-- Every code has one meaning: what an access, a command word or a wire byte decodes to encodes to that
same code; of a read access the data word is not kept (R100). -/
def Obligations.EncodeOfDecode : Prop :=
  (∀ (lineW : Nat) (A : BitVec 18) (D : Word) (i : Instr), decode lineW (.access 32 A D) = .ok i →
    encode i = .access 32 A (if A.getLsbD 16 then D else 0)) ∧
  (∀ w : Word, encode (decodeCommand w) = .command w) ∧
  (∀ (b : Byte) (i : Instr), decodeWire b = .ok i → encode i = .wire b)

/-- The decoder answers only with well-formed operations: a LINEBUF index below LINE_W (R101), a
reserved command word that no named row matches (R104). -/
def Obligations.DecodedIsWellFormed : Prop :=
  ∀ (lineW : Nat) (c : Code) (i : Instr), decode lineW c = .ok i → i.wellFormed lineW = true

/-- Words written out from the spec's tables decode to their rows: R100's three examples, a palette and
a line buffer offset, the four named command words, a reserved one and two wire bytes. That an access
descriptor is read as 24 bits, its data word (0 here) above them, is log 27. -/
def Obligations.TableWordsDecode : Prop :=
  decodeTableWord 24 0x10008 = some (.wPMboxTx 0) ∧
  decodeTableWord 24 0x20008 = some .rCMboxRx ∧
  decodeTableWord 24 0x30040 = some (.wCInit 0) ∧
  decodeTableWord 24 0x0013C = some (.rPPalette 15) ∧
  decodeTableWord 24 0x31008 = some (.wCLinebuf 2 0) ∧
  decodeTableWord 32 0x00000000 = some .nop ∧
  decodeTableWord 32 0x01000001 = some (.drawLine 1) ∧
  decodeTableWord 32 0x02000002 = some (.setIdle true false) ∧
  decodeTableWord 32 0x0300F800 = some (.setPixel 0xF800) ∧
  decodeTableWord 32 0x01FF0000 = some (.reservedCommand 0x01FF0000) ∧
  decodeTableWord 8 0x2C = some .ramwr ∧ decodeTableWord 8 0x00 = none

/-! ### A step runs the decoded operation -/

/-- With no held access ready: at its host's turn, an access that decodes runs, taken off what the host
has still to issue; at D's turn in WAIT_CMD, the command word in P2C runs; at E's turn, a command byte
at the head of the op queue is performed and the wire command it names runs (20_memory.md R78,
44_dispatcher.md R290, 40_panellink.md R145, 41_panel_receiver.md R207). The turn is taken off the list
(log 1). -/
def Obligations.StepRunsTheDecodedOperation : Prop :=
  (∀ (s : State) (a : Access) (rest : List Access) (ts : List Turn) (i : Instr),
    s.readyHeld = none → s.turns = .p :: ts → s.portP.hold = none → s.portP.reqs = a :: rest →
    decode s.cfg.lineW (.access a.width (descriptor false a.write a.off) a.data) = .ok i →
    step s = exec i { s with turns := ts, portP := { s.portP with reqs := rest } }) ∧
  (∀ (s : State) (a : Access) (rest : List Access) (ts : List Turn) (i : Instr),
    s.readyHeld = none → s.turns = .c :: ts → s.portC.hold = none → s.portC.reqs = a :: rest →
    decode s.cfg.lineW (.access a.width (descriptor true a.write a.off) a.data) = .ok i →
    step s = exec i { s with turns := ts, portC := { s.portC with reqs := rest } }) ∧
  (∀ (s : State) (w : Word) (ts : List Turn) (i : Instr),
    s.readyHeld = none → s.turns = .d :: ts → s.faulted = false → s.phase = .waitCmd →
    s.p2c = some w → decode s.cfg.lineW (.command w) = .ok i →
    step s = exec i { s with turns := ts }) ∧
  (∀ (s : State) (q : QItem) (rest : List QItem) (ts : List Turn) (b : Byte) (i : Instr),
    s.readyHeld = none → s.turns = .e :: ts → s.faulted = false → s.opQueue = q :: rest →
    q.ev = .cmd b → decode s.cfg.lineW (.wire b) = .ok i →
    step s = exec i (({ s with turns := ts, opQueue := rest } : State).perform q))

/-- An access that is not a whole, aligned 32-bit word faults BAD_ACCESS with the offset of its lowest
byte, whatever its offset is; a whole, aligned one whose offset is not in its port's map (10_state.md
R40, R41) faults BAD_REGISTER. A read returns 0, and nothing else happens (20_memory.md R74, R77;
60_exceptions.md R311). -/
def Obligations.UnmappedAndNarrowAccessesFault : Prop :=
  ∀ (s : State) (a : Access) (rest : List Access) (ts : List Turn) (code : Byte),
    s.readyHeld = none → s.faulted = false → s.cfg.lineW ≤ 1024 →
    (s.turns = .p :: ts → s.portP.hold = none → s.portP.reqs = a :: rest →
      (code = 0x01 ∧ (a.width ≠ 32 ∨ a.off.toNat % 4 ≠ 0) ∨
       code = 0x02 ∧ a.width = 32 ∧ a.off.toNat % 4 = 0 ∧
         a.off.toNat ∉ [0x00, 0x04, 0x08, 0x0C, 0x10] ∧
         ¬ (0x100 ≤ a.off.toNat ∧ a.off.toNat < 0x140) ∧
         ¬ (0x1000 ≤ a.off.toNat ∧ a.off.toNat < 0x1000 + 4 * s.cfg.lineW)) →
      step s = .next { s with
        turns := ts
        fault := { code := code, port := false, disp := false, offset := a.off }
        opQueue := []
        portP := { reqs := rest, hold := none, answer := if a.write then none else some 0 }
        portC := s.portC.dropHeld }) ∧
    (s.turns = .c :: ts → s.portC.hold = none → s.portC.reqs = a :: rest →
      (code = 0x01 ∧ (a.width ≠ 32 ∨ a.off.toNat % 4 ≠ 0) ∨
       code = 0x02 ∧ a.width = 32 ∧ a.off.toNat % 4 = 0 ∧
         ¬ a.off.toNat < 0x18 ∧ ¬ (0x40 ≤ a.off.toNat ∧ a.off.toNat < 0x84) ∧
         ¬ (0x100 ≤ a.off.toNat ∧ a.off.toNat < 0x140) ∧
         ¬ (0x1000 ≤ a.off.toNat ∧ a.off.toNat < 0x1000 + 4 * s.cfg.lineW)) →
      step s = .next { s with
        turns := ts
        fault := { code := code, port := true, disp := false, offset := a.off }
        opQueue := []
        portP := s.portP.dropHeld
        portC := { reqs := rest, hold := none, answer := if a.write then none else some 0 } })

/-! ### Status, control and busy flag -/

/-- P_STATUS, C_STATUS and the fault registers read their bits, in every state, faulted or not, and a
read changes nothing (43_busy_status.md R261, R262, R267, R277). -/
def Obligations.StatusReadsShowTheirBits : Prop :=
  (∀ s : State, s.portP.hold = none → ∃ w : Word, AnswersP .rPStatus s s (some w) ∧
    w.getLsbD 0 = s.busy ∧ w.getLsbD 1 = s.p2c.isSome ∧ w.getLsbD 2 = s.c2p.isSome ∧
    w.getLsbD 3 = (s.p2c.isNone && !s.busy) ∧ w.getLsbD 4 = s.palLocked ∧
    w.getLsbD 5 = decide (s.fault.code ≠ 0) ∧ ∀ k, 6 ≤ k → w.getLsbD k = false) ∧
  (∀ s : State, s.portC.hold = none → ∃ w : Word, AnswersC .rCStatus s s (some w) ∧
    w.getLsbD 0 = s.busy ∧ w.getLsbD 1 = s.p2c.isSome ∧ w.getLsbD 2 = s.c2p.isSome ∧
    w.getLsbD 3 = !s.opQueue.isEmpty ∧ w.getLsbD 4 = s.streamOpen ∧
    w.getLsbD 5 = decide (s.fault.code ≠ 0) ∧ w.getLsbD 6 = s.initDone ∧
    w.getLsbD 7 = s.dispatchEn ∧ w.getLsbD 8 = s.palLocked ∧ w.getLsbD 9 = s.bl ∧
    ∀ k, 10 ≤ k → w.getLsbD k = false) ∧
  (∀ s : State, ∃ w : Word,
    (s.portP.hold = none → AnswersP .rPFault s s (some w)) ∧
    (s.portC.hold = none → AnswersC .rCFault s s (some w)) ∧
    w.extractLsb' 0 8 = s.fault.code ∧ w.getLsbD 8 = s.fault.port ∧ w.getLsbD 9 = s.fault.disp ∧
    w.extractLsb' 10 6 = 0 ∧ w.extractLsb' 16 16 = s.fault.offset)

/-- A write to a read-only register is ignored, and a read of a write-only register returns 0 and has
no effect (43_busy_status.md R260); agent C's reads of link registers need C to own the link (R269). -/
def Obligations.IgnoredWritesAndZeroReads : Prop :=
  (∀ (s : State) (v : Word), s.portP.hold = none →
    AnswersP (.wPStatus v) s s none ∧ AnswersP (.wPMboxRx v) s s none ∧
    AnswersP (.wPFault v) s s none ∧ AnswersP .rPMboxTx s s (some 0)) ∧
  (∀ (s : State) (v : Word), s.portC.hold = none →
    AnswersC (.wCStatus v) s s none ∧ AnswersC (.wCMboxRx v) s s none ∧
    AnswersC (.wCFault v) s s none ∧ AnswersC .rCMboxTx s s (some 0)) ∧
  (∀ s : State, s.OwnedByC →
    AnswersC .rCInit s s (some 0) ∧ AnswersC .rCWinApply s s (some 0) ∧
    AnswersC .rCSetAddress s s (some 0) ∧ AnswersC .rCStreamBegin s s (some 0) ∧
    AnswersC .rCPixel s s (some 0) ∧ AnswersC .rCStreamEnd s s (some 0) ∧
    AnswersC .rCFillGo s s (some 0) ∧ AnswersC .rCInvert s s (some 0) ∧
    AnswersC .rCPower s s (some 0) ∧ AnswersC .rCIdle s s (some 0) ∧
    AnswersC .rCDrawLine s s (some 0))

/-- The staging registers: the owner's write stores the word, FILL_COLOR its low half zero-extended, with
no check and nothing emitted, and its read returns it, whether the stream is open or not; while the
dispatcher is enabled both fault OWNER_VIOLATION (40_panellink.md R154, R155, R161 to R163). -/
def Obligations.StagingRegisters : Prop :=
  (∀ (s : State) (v : Word), s.OwnedByC →
    AnswersC (.wCWinCol v) s { s with winCol := v } none ∧
    AnswersC (.wCWinRow v) s { s with winRow := v } none ∧
    AnswersC (.wCFillColor v) s { s with fillColor := (v.extractLsb' 0 16).setWidth 32 } none ∧
    AnswersC (.wCFillXY v) s { s with fillXY := v } none ∧
    AnswersC (.wCFillWH v) s { s with fillWH := v } none ∧
    AnswersC .rCWinCol s s (some s.winCol) ∧ AnswersC .rCWinRow s s (some s.winRow) ∧
    AnswersC .rCFillColor s s (some ((s.fillColor.extractLsb' 0 16).setWidth 32)) ∧
    AnswersC .rCFillXY s s (some s.fillXY) ∧ AnswersC .rCFillWH s s (some s.fillWH)) ∧
  (∀ (s : State) (v : Word), s.ReadyC → s.dispatchEn = true →
    RaisesC (.wCWinCol v) s 0x03 0x0044 none ∧ RaisesC .rCWinCol s 0x03 0x0044 (some 0) ∧
    RaisesC (.wCWinRow v) s 0x03 0x0048 none ∧ RaisesC .rCWinRow s 0x03 0x0048 (some 0) ∧
    RaisesC (.wCFillColor v) s 0x03 0x0060 none ∧ RaisesC .rCFillColor s 0x03 0x0060 (some 0) ∧
    RaisesC (.wCFillXY v) s 0x03 0x0064 none ∧ RaisesC .rCFillXY s 0x03 0x0064 (some 0) ∧
    RaisesC (.wCFillWH v) s 0x03 0x0068 none ∧ RaisesC .rCFillWH s 0x03 0x0068 (some 0))

/-- P_BUSY, C_BUSY_CLR and C_CTRL: each read returns its one bit; P_BUSY is write 1 to set and C_BUSY_CLR
write 1 to clear, on bit 0 alone (43_busy_status.md R263 to R266); C_CTRL's bit 0 enables the dispatcher
and starts it from OFF, faults STREAM_OPEN with a stream open, and a 0 has no effect (R268; that the
stream is looked at also when the dispatcher is already enabled is log 10). -/
def Obligations.BusyAndControlRegisters : Prop :=
  (∀ (s : State) (v : Word), s.ReadyP →
    AnswersP .rPBusy s s (some (if s.busy then 1 else 0)) ∧
    AnswersP (.wPBusy v) s { s with busy := s.busy || v.getLsbD 0 } none) ∧
  (∀ (s : State) (v : Word), s.ReadyC →
    AnswersC .rCBusyClr s s (some (if s.busy then 1 else 0)) ∧
    (s.dispatchEn = false →
      AnswersC (.wCBusyClr v) s { s with busy := s.busy && !v.getLsbD 0 } none) ∧
    (s.dispatchEn = true → RaisesC (.wCBusyClr v) s 0x03 0x0004 none) ∧
    AnswersC .rCCtrl s s (some (if s.dispatchEn then 1 else 0)) ∧
    (v.getLsbD 0 = false → AnswersC (.wCCtrl v) s s none) ∧
    (v.getLsbD 0 = true → s.streamOpen = true → RaisesC (.wCCtrl v) s 0x07 0x0014 none) ∧
    (v.getLsbD 0 = true → s.streamOpen = false →
      AnswersC (.wCCtrl v) s
        { s with dispatchEn := true, phase := if s.phase = .off then .waitCmd else s.phase } none))

/-- C_BACKLIGHT: a write sets BL to bit 0 and queues that one BL event behind the events still pending,
a read returns BL; neither looks at the stream or at the owner (40_panellink.md R167). -/
def Obligations.BacklightRegister : Prop :=
  ∀ (s : State) (v : Word), s.ReadyC →
    AnswersC .rCBacklight s s (some (if s.bl then 1 else 0)) ∧
    IssuesC (.wCBacklight v) s { s with bl := v.getLsbD 0 } [.bl (v.getLsbD 0)]

/-! ### Palette and line buffer -/

/-- PALETTE[k] from either port: a write before the lock makes entry k hold the low half and no other
entry change; after the lock it faults PALETTE_LOCKED; a read returns a written entry and faults
UNINIT_READ on one never written (43_busy_status.md R270, R271). -/
def Obligations.PaletteAccesses : Prop :=
  ∀ (s : State) (k : BitVec 4) (v : Word),
    (s.ReadyP → s.palLocked = false → ∃ m : Memory Half,
      AnswersP (.wPPalette k v) s { s with palette := m } none ∧
      ∀ j, m.read j = if j = k.toNat then some (v.extractLsb' 0 16) else s.palette.read j) ∧
    (s.ReadyC → s.palLocked = false → ∃ m : Memory Half,
      AnswersC (.wCPalette k v) s { s with palette := m } none ∧
      ∀ j, m.read j = if j = k.toNat then some (v.extractLsb' 0 16) else s.palette.read j) ∧
    (s.ReadyP → s.palLocked = true →
      RaisesP (.wPPalette k v) s 0x0C (BitVec.ofNat 16 (0x100 + 4 * k.toNat)) none) ∧
    (s.ReadyC → s.palLocked = true →
      RaisesC (.wCPalette k v) s 0x0C (BitVec.ofNat 16 (0x100 + 4 * k.toNat)) none) ∧
    (∀ c, s.palette.read k.toNat = some c →
      (s.ReadyP → AnswersP (.rPPalette k) s s (some (c.setWidth 32))) ∧
      (s.ReadyC → AnswersC (.rCPalette k) s s (some (c.setWidth 32)))) ∧
    (s.palette.read k.toNat = none →
      (s.ReadyP → RaisesP (.rPPalette k) s 0x0A (BitVec.ofNat 16 (0x100 + 4 * k.toNat)) (some 0)) ∧
      (s.ReadyC → RaisesC (.rCPalette k) s 0x0A (BitVec.ofNat 16 (0x100 + 4 * k.toNat)) (some 0)))

/-- The P-port's LINEBUF[i]: while BUSY = 0 a write makes element i hold the low byte and no other
element change, a read returns a written element and faults UNINIT_READ on one never written; while
BUSY = 1 both fault BUFFER_RACE (43_busy_status.md R272, R273). -/
def Obligations.ProducerLineBufferAccesses : Prop :=
  ∀ (s : State) (i : BitVec 10) (v : Word), s.ReadyP → i.toNat < s.cfg.lineW →
    (s.busy = false → ∃ m : Memory Byte,
      AnswersP (.wPLinebuf i v) s { s with linebuf := m } none ∧
      ∀ j, m.read j = if j = i.toNat then some (v.extractLsb' 0 8) else s.linebuf.read j) ∧
    (s.busy = false → ∀ e, s.linebuf.read i.toNat = some e →
      AnswersP (.rPLinebuf i) s s (some (e.setWidth 32))) ∧
    (s.busy = false → s.linebuf.read i.toNat = none →
      RaisesP (.rPLinebuf i) s 0x0A (BitVec.ofNat 16 (0x1000 + 4 * i.toNat)) (some 0)) ∧
    (s.busy = true →
      RaisesP (.wPLinebuf i v) s 0x04 (BitVec.ofNat 16 (0x1000 + 4 * i.toNat)) none ∧
      RaisesP (.rPLinebuf i) s 0x04 (BitVec.ofNat 16 (0x1000 + 4 * i.toNat)) (some 0))

/-- Agent C's LINEBUF[i]: while the dispatcher is enabled both accesses fault OWNER_VIOLATION; else a read
with BUSY = 1 returns a written element and faults UNINIT_READ on one never written, and a read with
BUSY = 0 and every write fault BUFFER_NOT_OWNED (43_busy_status.md R274, R275). -/
def Obligations.ConsumerLineBufferAccesses : Prop :=
  ∀ (s : State) (i : BitVec 10) (v : Word), s.ReadyC → i.toNat < s.cfg.lineW →
    (s.dispatchEn = true →
      RaisesC (.rCLinebuf i) s 0x03 (BitVec.ofNat 16 (0x1000 + 4 * i.toNat)) (some 0) ∧
      RaisesC (.wCLinebuf i v) s 0x03 (BitVec.ofNat 16 (0x1000 + 4 * i.toNat)) none) ∧
    (s.dispatchEn = false → s.busy = true → ∀ e, s.linebuf.read i.toNat = some e →
      AnswersC (.rCLinebuf i) s s (some (e.setWidth 32))) ∧
    (s.dispatchEn = false → s.busy = true → s.linebuf.read i.toNat = none →
      RaisesC (.rCLinebuf i) s 0x0A (BitVec.ofNat 16 (0x1000 + 4 * i.toNat)) (some 0)) ∧
    (s.dispatchEn = false → s.busy = false →
      RaisesC (.rCLinebuf i) s 0x05 (BitVec.ofNat 16 (0x1000 + 4 * i.toNat)) (some 0)) ∧
    (s.dispatchEn = false →
      RaisesC (.wCLinebuf i v) s 0x05 (BitVec.ofNat 16 (0x1000 + 4 * i.toNat)) none)

/-! ### Mailbox -/

/-- The pushes and pops that can proceed: a send into an empty P2C with BUSY = 0 fills it, sets BUSY
exactly for the tag 0x01 and locks the palette, all in one step; a pop returns the word and empties the
slot, leaving BUSY; C2P is never interpreted (42_mailbox.md R241 to R247). -/
def Obligations.MailboxAccessesPerform : Prop :=
  (∀ (s : State) (v : Word), s.ReadyP → s.p2c = none → s.busy = false →
    AnswersP (.wPMboxTx v) s
      { s with p2c := some v, busy := decide (v.extractLsb' 24 8 = 0x01), palLocked := true } none) ∧
  (∀ (s : State) (w : Word), s.OwnedByC → s.p2c = some w →
    AnswersC .rCMboxRx s { s with p2c := none } (some w)) ∧
  (∀ (s : State) (v : Word), s.ReadyC → s.c2p = none →
    AnswersC (.wCMboxTx v) s { s with c2p := some v } none) ∧
  (∀ (s : State) (w : Word), s.ReadyP → s.c2p = some w →
    AnswersP .rPMboxRx s { s with c2p := none } (some w))

/-- The pushes and pops that cannot proceed hold their own port and change nothing else (42_mailbox.md
R240 to R247, 10_state.md R37). -/
def Obligations.MailboxAccessesHold : Prop :=
  (∀ (s : State) (v : Word), s.ReadyP → (s.p2c ≠ none ∨ s.busy = true) →
    exec (.wPMboxTx v) s =
      .next { s with portP := { s.portP with hold := some (.write (.wPMboxTx v)) } }) ∧
  (∀ s : State, s.OwnedByC → s.p2c = none →
    exec .rCMboxRx s = .next { s with portC := { s.portC with hold := some (.read .rCMboxRx) } }) ∧
  (∀ (s : State) (v : Word), s.ReadyC → s.c2p ≠ none →
    exec (.wCMboxTx v) s =
      .next { s with portC := { s.portC with hold := some (.write (.wCMboxTx v)) } }) ∧
  (∀ s : State, s.ReadyP → s.c2p = none →
    exec .rPMboxRx s = .next { s with portP := { s.portP with hold := some (.read .rPMboxRx) } })

/-- A held mailbox access is performed at the first instant its condition is true, before any other
turn: the step leaves `turns` as it is and does what the access does (20_memory.md R78; that the P-port
is looked at first is log 2). -/
def Obligations.HeldAccessIsPerformedFirst : Prop :=
  (∀ (s : State) (v : Word), s.faulted = false → s.portP.hold = some (.write (.wPMboxTx v)) →
    s.p2c = none → s.busy = false →
    step s = .next { s with
      p2c := some v
      busy := decide (v.extractLsb' 24 8 = 0x01)
      palLocked := true
      portP := { s.portP with hold := none, answer := none } }) ∧
  (∀ (s : State) (w : Word), s.faulted = false → s.portP.hold = some (.read .rPMboxRx) →
    s.c2p = some w →
    step s = .next { s with
      c2p := none, portP := { s.portP with hold := none, answer := some w } }) ∧
  (∀ (s : State) (w : Word), s.faulted = false → s.dispatchEn = false → s.portP.hold = none →
    s.portC.hold = some (.read .rCMboxRx) → s.p2c = some w →
    step s = .next { s with
      p2c := none, portC := { s.portC with hold := none, answer := some w } }) ∧
  (∀ (s : State) (v : Word), s.faulted = false → s.portP.hold = none →
    s.portC.hold = some (.write (.wCMboxTx v)) → s.c2p = none →
    step s = .next { s with
      c2p := some v, portC := { s.portC with hold := none, answer := none } })

/-! ### Link operations of agent C -/

/-- C_WIN_APPLY sends the staged window and C_SET_ADDRESS the cell, which it also stages, when the
window is not inverted and inside the panel; an inverted window faults WINDOW_INVERTED first and one
outside the panel WINDOW_RANGE (40_panellink.md R149, R150, R156, R157, R174). -/
def Obligations.WindowOperations : Prop :=
  ∀ (s : State) (v : Word) (cs ce rs re x y : Half), s.OwnedByC → s.streamOpen = false →
    s.winCol = ce ++ cs → s.winRow = re ++ rs → v = y ++ x →
    (cs.toNat ≤ ce.toNat → rs.toNat ≤ re.toNat → ce.toNat < s.cfg.panelW → re.toNat < s.cfg.panelH →
      IssuesC (.wCWinApply v) s s (windowWire cs ce rs re)) ∧
    (ce.toNat < cs.toNat ∨ re.toNat < rs.toNat → RaisesC (.wCWinApply v) s 0x08 0x004C none) ∧
    (cs.toNat ≤ ce.toNat → rs.toNat ≤ re.toNat →
      s.cfg.panelW ≤ ce.toNat ∨ s.cfg.panelH ≤ re.toNat → RaisesC (.wCWinApply v) s 0x09 0x004C none) ∧
    (x.toNat < s.cfg.panelW → y.toNat < s.cfg.panelH →
      IssuesC (.wCSetAddress v) s { s with winCol := x ++ x, winRow := y ++ y }
        (windowWire x x y y)) ∧
    (s.cfg.panelW ≤ x.toNat ∨ s.cfg.panelH ≤ y.toNat →
      RaisesC (.wCSetAddress v) s 0x09 0x0050 none)

/-- C_INIT stages the full window and queues the 44 events of the initialization sequence, in order; the
last of them, and no other, is marked to set INIT_DONE, and none drives DC by itself (40_panellink.md
R151 to R153). -/
def Obligations.InitializeQueuesItsSequence : Prop :=
  ∀ (s : State) (v : Word), s.OwnedByC → s.streamOpen = false →
    IssuesC (.wCInit v) s
      { s with
        winCol := BitVec.ofNat 16 (s.cfg.panelW - 1) ++ 0#16
        winRow := BitVec.ofNat 16 (s.cfg.panelH - 1) ++ 0#16 }
      ([.rst false, .wait 100, .rst true, .wait 100,
        .cs false, .cmd 0x01, .cs true, .wait 150, .cs false, .cmd 0x11, .cs true, .wait 120,
        .cs false, .cmd 0x3A, .dat s.cfg.colmod16bpp, .cs true,
        .cs false, .cmd 0x36, .dat s.cfg.madctlInit, .cs true] ++
        windowWire 0 (BitVec.ofNat 16 (s.cfg.panelW - 1)) 0 (BitVec.ofNat 16 (s.cfg.panelH - 1)) ++
        [.cs false, .cmd 0x13, .cs true, .cs false, .cmd 0x29, .cs true, .wait 120])
      (inits := true)

/-- The pixel stream: begin opens it, drives DC to 1 and selects the panel, a pixel sends its low half
high byte first, end closes it and deselects; a pixel or an end without a stream faults STREAM_NOT_OPEN and a begin in
one faults STREAM_OPEN (40_panellink.md R158 to R160). -/
def Obligations.PixelStream : Prop :=
  ∀ (s : State) (v : Word), s.OwnedByC →
    (s.streamOpen = false →
      IssuesC (.wCStreamBegin v) s { s with streamOpen := true } [] [.cs false] ∧
      RaisesC (.wCPixel v) s 0x06 0x0058 none ∧ RaisesC (.wCStreamEnd v) s 0x06 0x005C none) ∧
    (s.streamOpen = true →
      RaisesC (.wCStreamBegin v) s 0x07 0x0054 none ∧
      IssuesC (.wCPixel v) s s [.dat (v.extractLsb' 8 8), .dat (v.extractLsb' 0 8)] ∧
      IssuesC (.wCStreamEnd v) s { s with streamOpen := false } [.cs true])

/-- C_FILL_GO stages and sends the rectangle's window and streams w*h copies of the colour; a zero width
or height faults WINDOW_INVERTED, and a rectangle that leaves the panel WINDOW_RANGE, its end compared
exactly (40_panellink.md R164; that its stream frame drives DC to 1 as it opens is log 12). -/
def Obligations.FillOperation : Prop :=
  ∀ (s : State) (v : Word) (x y w h c : Half), s.OwnedByC → s.streamOpen = false →
    s.fillXY = y ++ x → s.fillWH = h ++ w → s.fillColor.extractLsb' 0 16 = c →
    (w.toNat ≠ 0 → h.toNat ≠ 0 → x.toNat + w.toNat ≤ s.cfg.panelW →
      y.toNat + h.toNat ≤ s.cfg.panelH →
      IssuesC (.wCFillGo v) s
        { s with
          winCol := BitVec.ofNat 16 (x.toNat + w.toNat - 1) ++ x
          winRow := BitVec.ofNat 16 (y.toNat + h.toNat - 1) ++ y }
        (windowWire x (BitVec.ofNat 16 (x.toNat + w.toNat - 1)) y
          (BitVec.ofNat 16 (y.toNat + h.toNat - 1)))
        (streamWire (List.replicate (w.toNat * h.toNat) c))) ∧
    (w.toNat = 0 ∨ h.toNat = 0 → RaisesC (.wCFillGo v) s 0x08 0x006C none) ∧
    (w.toNat ≠ 0 → h.toNat ≠ 0 →
      s.cfg.panelW < x.toNat + w.toNat ∨ s.cfg.panelH < y.toNat + h.toNat →
      RaisesC (.wCFillGo v) s 0x09 0x006C none)

/-- The toggles look at bit 0 alone: C_INVERT sends INVON or INVOFF, C_IDLE IDMON or IDMOFF, C_POWER
SLPIN with its settle or SLPOUT with at least 120 ms (40_panellink.md R165, R166, R168). -/
def Obligations.ToggleOperations : Prop :=
  ∀ (s : State) (v : Word), s.OwnedByC → s.streamOpen = false →
    IssuesC (.wCInvert v) s s
      [.cs false, .cmd (if v.getLsbD 0 then 0x21 else 0x20), .cs true] ∧
    IssuesC (.wCIdle v) s s [.cs false, .cmd (if v.getLsbD 0 then 0x39 else 0x38), .cs true] ∧
    IssuesC (.wCPower v) s s
      (if v.getLsbD 0 then
        [.cs false, .cmd 0x10, .cs true] ++
          (if 0 < s.cfg.slpinSettleMs then [.wait s.cfg.slpinSettleMs] else [])
      else [.cs false, .cmd 0x11, .cs true, .wait 120])

/-- C_DRAW_LINE with BUSY = 1, a row below SRC_H and a line buffer whose every element maps: it stages
and sends the row's window in the centered region and streams the LINE_W mapped colours in order; colour
i depends on element i and the palette alone (40_panellink.md R169, R170; that its stream frame drives DC
to 1 as it opens is log 12). -/
def Obligations.DrawLineStreamsTheMappedRow : Prop :=
  ∀ (s : State) (v : Word) (colors : List Half), s.OwnedByC → s.streamOpen = false →
    s.busy = true → (v.extractLsb' 0 16).toNat < s.cfg.srcH → colors.length = s.cfg.lineW →
    (∀ i, i < s.cfg.lineW → ∃ e, s.linebuf.read i = some e ∧ e.extractLsb' 4 4 = 0 ∧
      s.palette.read (e.extractLsb' 0 4).toNat = colors[i]?) →
    let cs := BitVec.ofNat 16 ((s.cfg.panelW - s.cfg.lineW) / 2)
    let ce := BitVec.ofNat 16 ((s.cfg.panelW - s.cfg.lineW) / 2 + s.cfg.lineW - 1)
    let r := BitVec.ofNat 16 ((s.cfg.panelH - s.cfg.srcH) / 2 + (v.extractLsb' 0 16).toNat)
    IssuesC (.wCDrawLine v) s { s with winCol := ce ++ cs, winRow := r ++ r }
      (windowWire cs ce r r) (streamWire colors)

/-- C_DRAW_LINE's faults, in their order: BUFFER_NOT_OWNED without BUSY, then ROW_RANGE, then the first
element that does not map: UNINIT_READ at an unwritten element, PALETTE_INDEX at one with bits [7:4]
set, UNINIT_READ at an unwritten palette entry. No colour is sent (40_panellink.md R169, R170). -/
def Obligations.DrawLineFaults : Prop :=
  ∀ (s : State) (v : Word), s.OwnedByC → s.streamOpen = false →
    (s.busy = false → RaisesC (.wCDrawLine v) s 0x05 0x0080 none) ∧
    (s.busy = true → s.cfg.srcH ≤ (v.extractLsb' 0 16).toNat →
      RaisesC (.wCDrawLine v) s 0x0E 0x0080 none) ∧
    (s.busy = true → (v.extractLsb' 0 16).toNat < s.cfg.srcH → ∀ i, i < s.cfg.lineW →
      (∀ j, j < i → s.Maps j) →
      (s.linebuf.read i = none →
        RaisesC (.wCDrawLine v) s 0x0A (BitVec.ofNat 16 (0x1000 + 4 * i)) none) ∧
      (∀ e, s.linebuf.read i = some e → e.extractLsb' 4 4 ≠ 0 →
        RaisesC (.wCDrawLine v) s 0x0B (BitVec.ofNat 16 (0x1000 + 4 * i)) none) ∧
      (∀ e, s.linebuf.read i = some e → e.extractLsb' 4 4 = 0 →
        s.palette.read (e.extractLsb' 0 4).toNat = none →
        RaisesC (.wCDrawLine v) s 0x0A
          (BitVec.ofNat 16 (0x100 + 4 * (e.extractLsb' 0 4).toNat)) none))

/-! ### Guards and faults -/

/-- While the dispatcher is enabled every access that the owner restriction lists faults
OWNER_VIOLATION, whatever else would fail (43_busy_status.md R269, 60_exceptions.md R315). -/
def Obligations.OwnerRestriction : Prop :=
  ∀ (s : State) (v : Word) (i : BitVec 10), s.ReadyC → s.dispatchEn = true → i.toNat < s.cfg.lineW →
    RaisesC .rCMboxRx s 0x03 0x0008 (some 0) ∧ RaisesC (.wCBusyClr v) s 0x03 0x0004 none ∧
    RaisesC .rCInit s 0x03 0x0040 (some 0) ∧ RaisesC (.wCInit v) s 0x03 0x0040 none ∧
    RaisesC .rCWinCol s 0x03 0x0044 (some 0) ∧ RaisesC (.wCWinCol v) s 0x03 0x0044 none ∧
    RaisesC .rCWinRow s 0x03 0x0048 (some 0) ∧ RaisesC (.wCWinRow v) s 0x03 0x0048 none ∧
    RaisesC .rCWinApply s 0x03 0x004C (some 0) ∧ RaisesC (.wCWinApply v) s 0x03 0x004C none ∧
    RaisesC .rCSetAddress s 0x03 0x0050 (some 0) ∧ RaisesC (.wCSetAddress v) s 0x03 0x0050 none ∧
    RaisesC .rCStreamBegin s 0x03 0x0054 (some 0) ∧ RaisesC (.wCStreamBegin v) s 0x03 0x0054 none ∧
    RaisesC .rCPixel s 0x03 0x0058 (some 0) ∧ RaisesC (.wCPixel v) s 0x03 0x0058 none ∧
    RaisesC .rCStreamEnd s 0x03 0x005C (some 0) ∧ RaisesC (.wCStreamEnd v) s 0x03 0x005C none ∧
    RaisesC .rCFillColor s 0x03 0x0060 (some 0) ∧ RaisesC (.wCFillColor v) s 0x03 0x0060 none ∧
    RaisesC .rCFillXY s 0x03 0x0064 (some 0) ∧ RaisesC (.wCFillXY v) s 0x03 0x0064 none ∧
    RaisesC .rCFillWH s 0x03 0x0068 (some 0) ∧ RaisesC (.wCFillWH v) s 0x03 0x0068 none ∧
    RaisesC .rCFillGo s 0x03 0x006C (some 0) ∧ RaisesC (.wCFillGo v) s 0x03 0x006C none ∧
    RaisesC .rCInvert s 0x03 0x0070 (some 0) ∧ RaisesC (.wCInvert v) s 0x03 0x0070 none ∧
    RaisesC .rCPower s 0x03 0x0074 (some 0) ∧ RaisesC (.wCPower v) s 0x03 0x0074 none ∧
    RaisesC .rCIdle s 0x03 0x007C (some 0) ∧ RaisesC (.wCIdle v) s 0x03 0x007C none ∧
    RaisesC .rCDrawLine s 0x03 0x0080 (some 0) ∧ RaisesC (.wCDrawLine v) s 0x03 0x0080 none ∧
    RaisesC (.rCLinebuf i) s 0x03 (BitVec.ofNat 16 (0x1000 + 4 * i.toNat)) (some 0) ∧
    RaisesC (.wCLinebuf i v) s 0x03 (BitVec.ofNat 16 (0x1000 + 4 * i.toNat)) none

/-- The stream guard: with a stream open each of the nine guarded operations faults STREAM_OPEN before
any other check (40_panellink.md R148). -/
def Obligations.StreamGuard : Prop :=
  ∀ (s : State) (v : Word), s.OwnedByC → s.streamOpen = true →
    RaisesC (.wCInit v) s 0x07 0x0040 none ∧ RaisesC (.wCWinApply v) s 0x07 0x004C none ∧
    RaisesC (.wCSetAddress v) s 0x07 0x0050 none ∧ RaisesC (.wCStreamBegin v) s 0x07 0x0054 none ∧
    RaisesC (.wCFillGo v) s 0x07 0x006C none ∧ RaisesC (.wCInvert v) s 0x07 0x0070 none ∧
    RaisesC (.wCPower v) s 0x07 0x0074 none ∧ RaisesC (.wCIdle v) s 0x07 0x007C none ∧
    RaisesC (.wCDrawLine v) s 0x07 0x0080 none

/-- While the block is faulted every access but the four status reads is answered with no effect: a read
returns 0, a write is ignored, no new fault is raised (43_busy_status.md R277); so is, at its host's
turn, an access that decodes to no register, narrow, unaligned or unmapped (log 13). And a port whose
access is held accepts no other (10_state.md R37; log 19). -/
def Obligations.FaultedAndHeldPorts : Prop :=
  (∀ (s : State) (i : Instr) (width : Nat) (A : BitVec 18) (D : Word),
    encode i = .access width A D →
    (s.faulted = true → i ∉ [.rPStatus, .rCStatus, .rPFault, .rCFault] →
      (A.getLsbD 17 = false → s.portP.hold = none →
        AnswersP i s s (if A.getLsbD 16 then none else some 0)) ∧
      (A.getLsbD 17 = true → s.portC.hold = none →
        AnswersC i s s (if A.getLsbD 16 then none else some 0))) ∧
    (A.getLsbD 17 = false → s.portP.hold ≠ none → exec i s = .next s) ∧
    (A.getLsbD 17 = true → s.portC.hold ≠ none → exec i s = .next s)) ∧
  (∀ (s : State) (a : Access) (rest : List Access) (ts : List Turn) (e : DecodeError),
    s.readyHeld = none → s.faulted = true →
    (s.turns = .p :: ts → s.portP.hold = none → s.portP.reqs = a :: rest →
      decode s.cfg.lineW (.access a.width (descriptor false a.write a.off) a.data) = .error e →
      step s = .next { s with
        turns := ts
        portP := { reqs := rest, hold := none, answer := if a.write then none else some 0 } }) ∧
    (s.turns = .c :: ts → s.portC.hold = none → s.portC.reqs = a :: rest →
      decode s.cfg.lineW (.access a.width (descriptor true a.write a.off) a.data) = .error e →
      step s = .next { s with
        turns := ts
        portC := { reqs := rest, hold := none, answer := if a.write then none else some 0 } }))

/-- The faulted state is final: as long as the platform does not reset the block, no step changes
anything of it but what the ports still hold for their hosts; so the first fault stays recorded
(60_exceptions.md R312, R313). Stated for states whose holds are those of a run (`HoldsSound`, an
invariant of its own). -/
def Obligations.FaultedStateIsFinal : Prop :=
  ∀ s t : State, s.faulted = true → s.HoldsSound → s.turns.head? ≠ some .reset → step s = .next t →
    t = { s with portP := t.portP, portC := t.portC, turns := t.turns }

/-- Faults are precise: a step that raises one changes the latch, empties the op queue and completes
held accesses, and nothing else; only the pop of a reserved command word stands (60_exceptions.md R314,
44_dispatcher.md R296). -/
def Obligations.FaultsArePrecise : Prop :=
  ∀ s t : State, s.faulted = false → step s = .next t → t.faulted = true →
    t = { s with
      fault := t.fault
      opQueue := []
      portP := t.portP
      portC := t.portC
      turns := t.turns
      p2c := t.p2c } ∧
    t.portP.hold = none ∧ t.portC.hold = none ∧
    (t.p2c = s.p2c ∨
      t.p2c = none ∧ t.fault = { code := 0x0D, port := true, disp := true, offset := 0x0008 })

/-- Raising a fault: an empty latch records the code, who raised it and the offset, and one that holds a
fault keeps it; the op queue is discarded; on either port a held access completes with no effect, a held
read returning 0, and a port with no access held is as it was; nothing else changes
(60_exceptions.md R311, R313, 42_mailbox.md R251). -/
def Obligations.FaultReleasesHeldAccesses : Prop :=
  ∀ (s : State) (t : Trap) (port disp : Bool),
    s.raiseFault t port disp =
      { s with
        fault := (s.raiseFault t port disp).fault
        opQueue := []
        portP := (s.raiseFault t port disp).portP
        portC := (s.raiseFault t port disp).portC } ∧
    (s.faulted = false → (s.raiseFault t port disp).fault =
      { code := t.code.byte, port := port, disp := disp, offset := t.off }) ∧
    (s.faulted = true → (s.raiseFault t port disp).fault = s.fault) ∧
    ∀ pid : PortId,
      ((s.port pid).hold = none → (s.raiseFault t port disp).port pid = s.port pid) ∧
      (∀ i, (s.port pid).hold = some (.read i) → (s.raiseFault t port disp).port pid =
        { s.port pid with hold := none, answer := some 0 }) ∧
      (∀ i, (s.port pid).hold = some (.write i) ∨ (s.port pid).hold = some .link →
        (s.raiseFault t port disp).port pid = { s.port pid with hold := none, answer := none })

/-! ### The dispatcher -/

/-- The command words, when D waits and finds them in P2C: NOP is popped and nothing else happens;
DRAW_LINE, SET_IDLE and SET_PIXEL are popped and D enters EXEC(w, 0) with their word; a reserved word is
popped and faults BAD_COMMAND with DISP = 1 and no operation issued, its phase as it was
(44_dispatcher.md R290, R292 to R296; log 9 for the phase). -/
def Obligations.CommandWordsArePopped : Prop :=
  ∀ s : State, s.faulted = false → s.phase = .waitCmd →
    (s.p2c = some 0 → exec .nop s = .next { s with p2c := none }) ∧
    (∀ row : Half, let w := BitVec.ofNat 32 (0x01000000 + row.toNat)
      s.p2c = some w →
      exec (.drawLine row) s = .next { s with p2c := none, phase := .exec w 0 false }) ∧
    (∀ invert idle : Bool, let w := BitVec.ofNat 32 (0x02000000 + 2 * invert.toNat + idle.toNat)
      s.p2c = some w →
      exec (.setIdle invert idle) s = .next { s with p2c := none, phase := .exec w 0 false }) ∧
    (∀ color : Half, let w := BitVec.ofNat 32 (0x03000000 + color.toNat)
      s.p2c = some w →
      exec (.setPixel color) s = .next { s with p2c := none, phase := .exec w 0 false }) ∧
    (∀ w : Word, s.p2c = some w → decodeCommand w = .reservedCommand w →
      exec (.reservedCommand w) s = .next { s with
        p2c := none
        fault := { code := 0x0D, port := true, disp := true, offset := 0x0008 }
        opQueue := []
        portP := s.portP.dropHeld
        portC := s.portC.dropHeld })

/-- Ops(w), by the conditions of 44_dispatcher.md R291 on the bits of w; a word that meets none of them
decodes to a reserved command and has no operations. -/
def Obligations.CommandOperations : Prop :=
  ∀ (cfg : Params) (w : Word),
    (w = 0 → commandOps cfg w = []) ∧
    (w.extractLsb' 24 8 = 0x01 → w.extractLsb' 16 8 = 0 →
      commandOps cfg w = [(0x0080, (w.extractLsb' 0 16).setWidth 32), (0x0004, 1)]) ∧
    (w.extractLsb' 24 8 = 0x02 → w.extractLsb' 2 22 = 0 →
      commandOps cfg w =
        [(0x007C, if w.getLsbD 0 then 1 else 0), (0x0070, if w.getLsbD 1 then 1 else 0)]) ∧
    (w.extractLsb' 24 8 = 0x03 → w.extractLsb' 16 8 = 0 →
      commandOps cfg w =
        [(0x0050, BitVec.ofNat 16 ((cfg.panelH - cfg.srcH) / 2) ++
            BitVec.ofNat 16 ((cfg.panelW - cfg.lineW) / 2)),
          (0x0054, 0), (0x0058, (w.extractLsb' 0 16).setWidth 32), (0x005C, 0)]) ∧
    (w ≠ 0 → ¬ (w.extractLsb' 24 8 = 0x01 ∧ w.extractLsb' 16 8 = 0) →
      ¬ (w.extractLsb' 24 8 = 0x02 ∧ w.extractLsb' 2 22 = 0) →
      ¬ (w.extractLsb' 24 8 = 0x03 ∧ w.extractLsb' 16 8 = 0) →
      decodeCommand w = .reservedCommand w ∧ commandOps cfg w = [])

/-- A whole SET_IDLE, with D and E taking the turns in order: the pop, then the idle frame, then the
invert frame; D waits again, P2C is empty, BUSY and INIT_DONE untouched (44_dispatcher.md R290, R294). -/
def Obligations.SetIdleRuns : Prop :=
  ∀ (s : State) (invert idle : Bool), s.faulted = false → s.phase = .waitCmd →
    s.portP.hold = none → s.portC.hold = none → s.opQueue = [] → s.streamOpen = false →
    s.p2c = some (BitVec.ofNat 32 (0x02000000 + 2 * invert.toNat + idle.toNat)) →
    ∃ t, Host.Core.run Sys2Proof.core 9 { s with turns := [.d, .d, .e, .e, .e, .d, .e, .e, .e] } =
        .next t ∧
      t.trace = s.trace ++ [.cs false, .cmd (if idle then 0x39 else 0x38), .cs true,
        .cs false, .cmd (if invert then 0x21 else 0x20), .cs true] ∧
      t.phase = .waitCmd ∧ t.p2c = none ∧ t.busy = s.busy ∧ t.initDone = s.initDone ∧
      t.opQueue = [] ∧ t.faulted = false

/-- A whole SET_PIXEL: the cell's window, then one pixel in its stream frame, which selects the panel with
DC = 1; the staging registers hold the cell, the stream is closed, BUSY and INIT_DONE untouched
(44_dispatcher.md R290, R295, 40_panellink.md R158). -/
def Obligations.SetPixelRuns : Prop :=
  ∀ (s : State) (color : Half), s.cfg.Legal → s.faulted = false → s.phase = .waitCmd →
    s.portP.hold = none → s.portC.hold = none → s.opQueue = [] → s.streamOpen = false →
    s.p2c = some (BitVec.ofNat 32 (0x03000000 + color.toNat)) →
    let x := BitVec.ofNat 16 ((s.cfg.panelW - s.cfg.lineW) / 2)
    let y := BitVec.ofNat 16 ((s.cfg.panelH - s.cfg.srcH) / 2)
    (∃ t, Host.Core.run Sys2Proof.core 21
        { s with turns := [.d, .d] ++ List.replicate 17 .e ++ [.d, .e] } = .next t ∧
      t.trace = s.trace ++ windowWire x x y y ++ [.cs false] ∧
      t.streamOpen = true ∧ t.pins.dc = true ∧ t.pins.csn = false) ∧
    (∃ t, Host.Core.run Sys2Proof.core 26
        { s with turns := [.d, .d] ++ List.replicate 17 .e ++ [.d, .e, .d, .e, .e, .d, .e] } =
        .next t ∧
      t.trace = s.trace ++ windowWire x x y y ++ streamWire [color] ∧
      t.winCol = x ++ x ∧ t.winRow = y ++ y ∧
      t.phase = .waitCmd ∧ t.p2c = none ∧ t.busy = s.busy ∧ t.initDone = s.initDone ∧
      t.opQueue = [] ∧ t.streamOpen = false ∧ t.faulted = false)

/-- A whole DRAW_LINE: the pop, the row's window and its LINE_W mapped colours, and only after the last
event BUSY falls; INIT_DONE is untouched (44_dispatcher.md R290, R293, 40_panellink.md R169, R170). -/
def Obligations.DrawLineRuns : Prop :=
  ∀ (s : State) (row : Half) (colors : List Half), s.faulted = false → s.phase = .waitCmd →
    s.portP.hold = none → s.portC.hold = none → s.opQueue = [] → s.streamOpen = false →
    s.busy = true → row.toNat < s.cfg.srcH → colors.length = s.cfg.lineW →
    (∀ i, i < s.cfg.lineW → ∃ e, s.linebuf.read i = some e ∧ e.extractLsb' 4 4 = 0 ∧
      s.palette.read (e.extractLsb' 0 4).toNat = colors[i]?) →
    s.p2c = some (BitVec.ofNat 32 (0x01000000 + row.toNat)) →
    let cs := BitVec.ofNat 16 ((s.cfg.panelW - s.cfg.lineW) / 2)
    let ce := BitVec.ofNat 16 ((s.cfg.panelW - s.cfg.lineW) / 2 + s.cfg.lineW - 1)
    let r := BitVec.ofNat 16 ((s.cfg.panelH - s.cfg.srcH) / 2 + row.toNat)
    let n := 19 + 2 * s.cfg.lineW
    (∃ t, Host.Core.run Sys2Proof.core (n + 2) { s with turns := .d :: .d :: List.replicate n .e } =
        .next t ∧ t.busy = true ∧
      t.trace = s.trace ++ windowWire cs ce r r ++ streamWire colors) ∧
    (∃ t, Host.Core.run Sys2Proof.core (n + 3)
        { s with turns := .d :: .d :: List.replicate n .e ++ [.d] } = .next t ∧
      t.trace = s.trace ++ windowWire cs ce r r ++ streamWire colors ∧
      t.busy = false ∧ t.phase = .waitCmd ∧ t.p2c = none ∧ t.opQueue = [] ∧
      t.initDone = s.initDone ∧ t.winCol = ce ++ cs ∧ t.winRow = r ++ r ∧ t.faulted = false)

/-! ### The engine and the pins -/

/-- One step of E removes the head of the queue and performs it, and does nothing else. The event stands
at the end of the trace; the line it names takes its level, a byte leaves DC at its level and SCK at 0
(MOSI keeps the byte's last bit: log 11), an entry that opens a stream frame drives DC to 1, and no other
line moves, none at a Wait. The panel takes BL, RSTn and data bytes, a command byte outside the table of
41_panel_receiver.md R200 makes it UNKNOWN unless it is held in reset (that its reset input and backlight
are kept then, and follow their lines while it is UNKNOWN, is log 14), and CS and Wait leave it alone
(R203, R205 to R207; a command byte of the table is StepRunsTheDecodedOperation). The last event of an
initialization sets INIT_DONE, the last of C's operation completes the access, and the last of D's moves D
to its next operation, or to WAIT_CMD after the last (40_panellink.md R140, R141, R145, R153, R158,
44_dispatcher.md R290). -/
def Obligations.EnginePerformsTheHead : Prop :=
  ∀ (s : State) (q : QItem) (rest : List QItem) (ts : List Turn),
    s.readyHeld = none → s.faulted = false → s.turns = .e :: ts → s.opQueue = q :: rest →
    let dc := s.pins.dc || q.dataMode
    ∃ t, step s = .next t ∧
      t = { s with
        turns := ts
        opQueue := rest
        trace := s.trace ++ [q.ev]
        initDone := s.initDone || q.endsInit
        portC := if q.ends = some .port then { s.portC with hold := none, answer := none }
                 else s.portC
        phase := t.phase
        pins := t.pins
        panel := t.panel } ∧
      (q.ends ≠ some .disp → t.phase = s.phase) ∧
      (q.ends = some .disp → ∀ w k issued, s.phase = .exec w k issued →
        t.phase = if k + 1 < (commandOps s.cfg w).length then .exec w (k + 1) false else .waitCmd) ∧
      (∀ l, q.ev = .cs l → t.pins = { s.pins with dc := dc, csn := l } ∧ t.panel = s.panel) ∧
      (∀ l, q.ev = .rst l → t.pins = { s.pins with dc := dc, rstn := l } ∧
        t.panel = s.panel.rst s.cfg l) ∧
      (∀ l, q.ev = .bl l → t.pins = { s.pins with dc := dc, bl := l } ∧
        t.panel = { s.panel with bl := l }) ∧
      (∀ n, q.ev = .wait n → t.pins = { s.pins with dc := dc } ∧ t.panel = s.panel) ∧
      (∀ b, q.ev = .dat b →
        t.pins = { s.pins with dc := true, sck := false, mosi := b.getLsbD 0 } ∧
        t.panel = s.panel.data s.cfg b) ∧
      (∀ b, q.ev = .cmd b →
        t.pins = { s.pins with dc := false, sck := false, mosi := b.getLsbD 0 } ∧
        ((∀ i, encode i ≠ .wire b) →
          t.panel = if s.panel.inReset then s.panel else { s.panel with known := none }))

/-- The pin levels of one byte: eight SCK pulses from an idle 0, DC at its level throughout, the panel
sampling the byte's bits most significant first, each bit on MOSI from the low level of its pulse through
the high one, and no other line moved (40_panellink.md R141). -/
def Obligations.ByteIsShiftedMsbFirst : Prop :=
  ∀ (p : Pins) (dc : Bool) (b : Byte),
    sampledBits (byteWave p dc b) = [b.getLsbD 7, b.getLsbD 6, b.getLsbD 5, b.getLsbD 4,
      b.getLsbD 3, b.getLsbD 2, b.getLsbD 1, b.getLsbD 0] ∧
    (byteWave p dc b).map (·.mosi) =
      [7, 6, 5, 4, 3, 2, 1, 0].flatMap (fun j => [b.getLsbD j, b.getLsbD j]) ∧
    (byteWave p dc b).map (·.sck) = (List.replicate 8 [false, true]).flatten ∧
    (∀ x ∈ byteWave p dc b, x.dc = dc ∧ x.csn = p.csn ∧ x.rstn = p.rstn ∧ x.bl = p.bl) ∧
    (p.afterByte dc b).sck = false ∧ (p.afterByte dc b).dc = dc

/-! ### The reference receiver -/

/-- The wire commands on a known panel that is not held in reset. When no command is short of parameter
bytes, each sets its own bit or opens its own context, RAMWR moves the cursor to the window's start, and
nothing else changes (41_panel_receiver.md R209 to R214, R216 to R221). When a command is short of them,
every one of these commands makes the panel UNKNOWN (R207, R202; that its reset input and backlight are
kept is log 14; SWRESET there is in PanelResets). -/
def Obligations.WireCommandsOnAKnownPanel : Prop :=
  ∀ (s : State) (r : PanelRec), s.panel.inReset = false → s.panel.known = some r →
    let goes (r' : PanelRec) : Host.Outcome State Fault Refusal :=
      .next { s with panel := { s.panel with known := some r' } }
    ((∀ cmd got, r.ctx = .params cmd got → cmd.count ≤ got.length) →
      exec .slpin s = goes { r with ctx := .none, sleep := true } ∧
      exec .slpout s = goes { r with ctx := .none, sleep := false } ∧
      exec .noron s = goes { r with ctx := .none, normal := true } ∧
      exec .invoff s = goes { r with ctx := .none, invert := false } ∧
      exec .invon s = goes { r with ctx := .none, invert := true } ∧
      exec .dispoff s = goes { r with ctx := .none, displayOn := false } ∧
      exec .dispon s = goes { r with ctx := .none, displayOn := true } ∧
      exec .idmoff s = goes { r with ctx := .none, idle := false } ∧
      exec .idmon s = goes { r with ctx := .none, idle := true } ∧
      exec .caset s = goes { r with ctx := .params .caset [] } ∧
      exec .raset s = goes { r with ctx := .params .raset [] } ∧
      exec .madctl s = goes { r with ctx := .params .madctl [] } ∧
      exec .colmod s = goes { r with ctx := .params .colmod [] } ∧
      exec .ramwr s = goes { r with ctx := .memWrite none, cx := r.xs, cy := r.ys }) ∧
    (∀ cmd got, r.ctx = .params cmd got → got.length < cmd.count →
      ∀ (b : Byte) (i : Instr), encode i = .wire b → b ≠ 0x01 →
        exec i s = .next { s with panel := { s.panel with known := none } })

/-- SWRESET gives the reset defaults from any state, UNKNOWN too, and keeps the frame memory of a known
panel; the release of RSTn after a low level does the same, in every command context (41_panel_receiver.md
R202 to R204, R208). Of an UNKNOWN panel's frame memory nothing is known (log 16), and an SWRESET that
cuts a command short of its parameter bytes acts as from UNKNOWN (R207; log 15). That the backlight is
known in UNKNOWN, and kept, is log 14. -/
def Obligations.PanelResets : Prop :=
  ∀ s : State, s.cfg.Legal →
    ∃ d : Memory Half → PanelRec,
      (∀ g, (d g).sleep = true ∧ (d g).displayOn = false ∧ (d g).invert = false ∧
        (d g).idle = false ∧ (d g).normal = true ∧ (d g).madctl = 0x00 ∧
        (d g).colmod = s.cfg.colmodReset ∧ (d g).xs = 0 ∧ (d g).ys = 0 ∧
        (d g).xe.toNat = s.cfg.rcvResetW - 1 ∧ (d g).ye.toNat = s.cfg.rcvResetH - 1 ∧
        (d g).cx = 0 ∧ (d g).cy = 0 ∧ (d g).ctx = .none ∧ (d g).gram = g) ∧
      (s.panel.known = none →
        (s.panel.inReset = false →
          exec .swreset s = .next { s with panel := { s.panel with known := some (d []) } }) ∧
        (s.panel.rst s.cfg false).rst s.cfg true =
          { s.panel with inReset := false, known := some (d []) }) ∧
      (∀ r, s.panel.known = some r →
        (s.panel.inReset = false →
          ((∀ cmd got, r.ctx = .params cmd got → cmd.count ≤ got.length) →
            exec .swreset s = .next { s with panel := { s.panel with known := some (d r.gram) } }) ∧
          (∀ cmd got, r.ctx = .params cmd got → got.length < cmd.count →
            exec .swreset s = .next { s with panel := { s.panel with known := some (d []) } })) ∧
        (s.panel.rst s.cfg false).rst s.cfg true =
          { s.panel with inReset := false, known := some (d r.gram) })

/-- While RSTn holds the panel in reset every wire command and every data byte is ignored, and in the
UNKNOWN state every wire command but SWRESET and every data byte leaves it UNKNOWN
(41_panel_receiver.md R202, R203). -/
def Obligations.PanelIgnoresCommands : Prop :=
  (∀ (s : State) (b : Byte) (i : Instr), encode i = .wire b →
    (s.panel.inReset = true → exec i s = .next s) ∧
    (s.panel.known = none → b ≠ 0x01 → exec i s = .next s)) ∧
  (∀ (cfg : Params) (p : Panel) (b : Byte),
    (p.inReset = true → p.data cfg b = p) ∧ (p.known = none → p.data cfg b = p))

/-- Parameter and pixel bytes on a known panel that is not held in reset: four bytes set a column or a
row range, or make the panel UNKNOWN if the range is inverted or outside the panel; one byte sets MADCTL
or COLMOD; two bytes of a memory write store the pixel at the cursor, high byte first, and move the
cursor along the row, to the next row, and back to the window's start (41_panel_receiver.md R215, R219
to R222). That an UNKNOWN panel keeps its reset input and backlight is log 14, and that a pixel is stored
also when the cursor stands outside the cells of R201 is log 28. -/
def Obligations.PanelDataBytes : Prop :=
  ∀ (cfg : Params) (p : Panel) (r : PanelRec) (b1 b2 b3 b4 : Byte),
    p.inReset = false → p.known = some r →
    (r.ctx = .none → p.data cfg b1 = p) ∧
    (r.ctx = .params .caset [] →
      (((p.data cfg b1).data cfg b2).data cfg b3).data cfg b4 =
        { p with known :=
          if (b3 ++ b4 : Half).toNat < (b1 ++ b2 : Half).toNat ∨ cfg.panelW ≤ (b3 ++ b4 : Half).toNat
          then none else some { r with xs := b1 ++ b2, xe := b3 ++ b4, ctx := .none } }) ∧
    (r.ctx = .params .raset [] →
      (((p.data cfg b1).data cfg b2).data cfg b3).data cfg b4 =
        { p with known :=
          if (b3 ++ b4 : Half).toNat < (b1 ++ b2 : Half).toNat ∨ cfg.panelH ≤ (b3 ++ b4 : Half).toNat
          then none else some { r with ys := b1 ++ b2, ye := b3 ++ b4, ctx := .none } }) ∧
    (r.ctx = .params .madctl [] →
      p.data cfg b1 = { p with known := some { r with madctl := b1, ctx := .none } }) ∧
    (r.ctx = .params .colmod [] →
      p.data cfg b1 = { p with known := some { r with colmod := b1, ctx := .none } }) ∧
    (∀ pending, r.ctx = .memWrite pending → r.colmod ≠ cfg.colmod16bpp →
      p.data cfg b1 = { p with known := none }) ∧
    (r.ctx = .memWrite none → r.colmod = cfg.colmod16bpp →
      ∃ r' : PanelRec, (p.data cfg b1).data cfg b2 = { p with known := some r' } ∧
        r' = { r with gram := r'.gram, cx := r'.cx, cy := r'.cy } ∧
        (∀ col row : Half, r'.gram.read (cellIndex col row) =
          if col = r.cx ∧ row = r.cy then some (b1 ++ b2) else r.gram.read (cellIndex col row)) ∧
        r'.cx = (if r.cx.toNat < r.xe.toNat then r.cx + 1 else r.xs) ∧
        r'.cy = (if r.cx.toNat < r.xe.toNat then r.cy
          else if r.cy.toNat < r.ye.toNat then r.cy + 1 else r.ys))

/-! ### What the wire does to the panel -/

/-- Window coverage: with the op queue holding a window's frames and then a stream of exactly its number
of colours, E's steps write every cell of the window once, in row-major order, and no other cell
(40_panellink.md R173, 41_panel_receiver.md R205, R214, R215). -/
def Obligations.WindowStreamCoversTheWindow : Prop :=
  ∀ (s : State) (r : PanelRec) (cs ce rs re : Half) (colors : List Half),
    s.faulted = false → s.portP.hold = none → s.portC.hold = none ∨ s.portC.hold = some .link →
    s.panel.inReset = false → s.panel.known = some r → (∀ cmd got, r.ctx ≠ .params cmd got) →
    r.colmod = s.cfg.colmod16bpp →
    cs.toNat ≤ ce.toNat → rs.toNat ≤ re.toNat → ce.toNat < s.cfg.panelW → re.toNat < s.cfg.panelH →
    s.opQueue.map (·.ev) = windowWire cs ce rs re ++ streamWire colors →
    colors.length = (ce.toNat - cs.toNat + 1) * (re.toNat - rs.toNat + 1) →
    ∃ t, Host.Core.run Sys2Proof.core s.opQueue.length (s.engineTurns s.opQueue.length) = .next t ∧
      t.opQueue = [] ∧ t.trace = s.trace ++ windowWire cs ce rs re ++ streamWire colors ∧
      ∀ col row : Half, t.gramAt col row =
        if cs.toNat ≤ col.toNat ∧ col.toNat ≤ ce.toNat ∧ rs.toNat ≤ row.toNat ∧ row.toNat ≤ re.toNat
        then colors[(row.toNat - rs.toNat) * (ce.toNat - cs.toNat + 1) + (col.toNat - cs.toNat)]?
        else s.gramAt col row

/-- Fill result: agent C's C_FILL_GO with a rectangle inside the panel, run to its last event, leaves
the colour in the w*h cells of the rectangle, every other cell as it was, and the C-port free
(40_panellink.md R164, R175). -/
def Obligations.FillPaintsTheRectangle : Prop :=
  ∀ (s : State) (r : PanelRec) (v : Word) (x y w h c : Half), s.OwnedByC → s.streamOpen = false →
    s.portP.hold = none → s.opQueue = [] → s.cfg.Legal →
    s.panel.inReset = false → s.panel.known = some r → (∀ cmd got, r.ctx ≠ .params cmd got) →
    r.colmod = s.cfg.colmod16bpp →
    s.fillXY = y ++ x → s.fillWH = h ++ w → s.fillColor.extractLsb' 0 16 = c →
    w.toNat ≠ 0 → h.toNat ≠ 0 → x.toNat + w.toNat ≤ s.cfg.panelW → y.toNat + h.toNat ≤ s.cfg.panelH →
    ∃ s' t, exec (.wCFillGo v) s = .next s' ∧
      Host.Core.run Sys2Proof.core s'.opQueue.length (s'.engineTurns s'.opQueue.length) = .next t ∧
      t.portC.hold = none ∧ t.opQueue = [] ∧
      ∀ col row : Half, t.gramAt col row =
        if x.toNat ≤ col.toNat ∧ col.toNat < x.toNat + w.toNat ∧
            y.toNat ≤ row.toNat ∧ row.toNat < y.toNat + h.toNat
        then some c else s.gramAt col row

/-- Initialization: from any panel, UNKNOWN too, agent C's C_INIT run to its 44th event leaves INIT_DONE
set, the C-port free and the panel awake, on, in 16-bit colour with the full window; so a second one
leaves the same panel record but for the frame memory, which it does not touch when the panel was known
(40_panellink.md R151 to R153, R176; 41_panel_receiver.md R203, R204; that the backlight of an UNKNOWN
panel is known and kept is log 14). -/
def Obligations.InitializationSetsThePanel : Prop :=
  ∀ (s : State) (v : Word), s.OwnedByC → s.streamOpen = false → s.portP.hold = none →
    s.opQueue = [] → s.cfg.Legal →
    ∃ s' t d, exec (.wCInit v) s = .next s' ∧
      Host.Core.run Sys2Proof.core 44 (s'.engineTurns 44) = .next t ∧
      t.initDone = true ∧ t.portC.hold = none ∧ t.opQueue = [] ∧
      t.panel = { inReset := false, bl := s.panel.bl, known := some d } ∧
      d.sleep = false ∧ d.displayOn = true ∧ d.invert = false ∧ d.idle = false ∧ d.normal = true ∧
      d.colmod = s.cfg.colmod16bpp ∧ d.madctl = s.cfg.madctlInit ∧
      d.xs = 0 ∧ d.xe.toNat = s.cfg.panelW - 1 ∧ d.ys = 0 ∧ d.ye.toNat = s.cfg.panelH - 1 ∧
      d.cx = 0 ∧ d.cy = 0 ∧ d.ctx = .none ∧
      (∀ r, s.panel.known = some r → d.gram = r.gram)

/-! ### Rules of the whole machine -/

/-- PAL_LOCKED, DISPATCH_EN and INIT_DONE are never cleared but by the block reset, and the parameters
never change (10_state.md R25, R27, R28, 00_scope.md R7). -/
def Obligations.StickyBitsStay : Prop :=
  ∀ s t : State, step s = .next t →
    t.cfg = s.cfg ∧
    (s.readyHeld ≠ none ∨ s.turns.head? ≠ some .reset →
      (s.palLocked = true → t.palLocked = true) ∧ (s.dispatchEn = true → t.dispatchEn = true) ∧
      (s.initDone = true → t.initDone = true))

/-- A locked palette never changes, and the line buffer never changes while BUSY = 1, but by the block
reset (10_state.md R25, 43_busy_status.md R270, R272). -/
def Obligations.LockedPaletteAndBusyLineBufferAreImmutable : Prop :=
  ∀ s t : State, step s = .next t → s.readyHeld ≠ none ∨ s.turns.head? ≠ some .reset →
    (s.palLocked = true → t.palette = s.palette) ∧ (s.busy = true → t.linebuf = s.linebuf)

/-- The wire trace only grows, by the head of the op queue and only at E's turn (40_panellink.md R145,
R146). Stated for states whose holds are those of a run (`HoldsSound`). -/
def Obligations.TraceGrowsOnlyByTheEngine : Prop :=
  ∀ s t : State, s.HoldsSound → step s = .next t →
    t.trace = s.trace ∨
    ∃ q rest, s.readyHeld = none ∧ s.turns.head? = some .e ∧ s.faulted = false ∧
      s.opQueue = q :: rest ∧ t.trace = s.trace ++ [q.ev]

/-- The producer's turn reaches only the producer's side: the link engine, its registers, the pins, the
panel, the dispatcher and the C2P slot's filling are untouched; at most a fault discards the op queue
(60_exceptions.md R319, 10_state.md R40). -/
def Obligations.ProducerCannotReachTheLink : Prop :=
  ∀ (s t : State) (ts : List Turn), s.readyHeld = none → s.turns = .p :: ts → step s = .next t →
    t.streamOpen = s.streamOpen ∧ t.initDone = s.initDone ∧ t.dispatchEn = s.dispatchEn ∧
    t.phase = s.phase ∧ t.winCol = s.winCol ∧ t.winRow = s.winRow ∧ t.fillColor = s.fillColor ∧
    t.fillXY = s.fillXY ∧ t.fillWH = s.fillWH ∧ t.bl = s.bl ∧ t.pins = s.pins ∧
    t.trace = s.trace ∧ t.panel = s.panel ∧ (t.c2p = s.c2p ∨ t.c2p = none) ∧
    (t.opQueue = s.opQueue ∨ t.opQueue = [] ∧ t.faulted = true) ∧ (s.busy = true → t.busy = true)

/-! ### Invariants: from every state that has one, every step keeps it -/

/-- The stores keep their canonical form, which is the model's representation of them (log 5), and hold
only the elements below LINE_W and the 16 entries that exist (10_state.md R33, R34). -/
def Obligations.StepKeepsStores : Prop :=
  ∀ s t : State, s.StoresWf → step s = .next t → t.StoresWf

/-- A halted block stays halted, the fault latch holds a code of 60_exceptions.md R310 or nothing, a
word in P2C has locked the palette and FILL_COLOR's high half is zero. -/
def Obligations.StepKeepsHaltLatchAndRegisters : Prop :=
  ∀ s t : State, s.Halted → s.LatchSound → s.RegsSound → step s = .next t →
    t.Halted ∧ t.LatchSound ∧ t.RegsSound

/-- Only mailbox accesses are held for a condition, each on its own port (10_state.md R37). -/
def Obligations.StepKeepsHolds : Prop :=
  ∀ s t : State, s.HoldsSound → step s = .next t → t.HoldsSound

/-- The dispatcher's phase is OFF exactly while it is not enabled, and EXEC(w, k) is at an operation of
`w` (10_state.md R36, 44_dispatcher.md R290). -/
def Obligations.StepKeepsPhase : Prop :=
  ∀ s t : State, s.PhaseSound → step s = .next t → t.PhaseSound

/-- Each issuer has at most one link operation in the queue, and it waits exactly for that one: link
operations of one issuer never overlap (40_panellink.md R145, R146, 44_dispatcher.md R290). -/
def Obligations.StepKeepsEngine : Prop :=
  ∀ s t : State, s.EngineSound → step s = .next t → t.EngineSound

/-- The panel's window is never inverted, its cursor stays in the window during a memory write, and it
never collects more parameter bytes than a command has (41_panel_receiver.md R215, R219). -/
def Obligations.StepKeepsPanel : Prop :=
  ∀ s t : State, s.PanelSound → step s = .next t → t.PanelSound

/-- The state after reset has every invariant, and so has a block reset of any state whose panel is sound:
P_STATUS reads 0x00000008, C_STATUS 0x00000000 and the fault registers 0 (70_reset_and_hazards.md R340;
the parameters and what the spec leaves to the model are log 6 and log 8). -/
def Obligations.ResetIsSound : Prop :=
  (State.reset.Inv ∧ State.reset.BusyExact ∧ State.reset.StreamPaired ∧ State.reset.cfg.Legal) ∧
  (∀ cfg, (State.resetWith cfg).pStatus = 0x00000008 ∧ (State.resetWith cfg).cStatus = 0 ∧
    (State.resetWith cfg).fault.word = 0) ∧
  (∀ s : State, s.PanelSound → (∀ r, s.panel.known = some r → r.gram.wf = true) →
    s.blockReset.Inv ∧ s.blockReset.BusyExact ∧ s.blockReset.StreamPaired ∧
    s.blockReset.pStatus = 0x00000008 ∧ s.blockReset.cStatus = 0 ∧ s.blockReset.fault.word = 0)

/-- The block reset's turn: every piece of the block's state takes its reset value, held accesses end
with no effect, no wire event is emitted and the panel is not told, also from the faulted state
(70_reset_and_hazards.md R340, R341, 60_exceptions.md R317). What the hosts have still to issue and the
trace stay (log 23). -/
def Obligations.BlockResetRestoresEverything : Prop :=
  ∀ (s : State) (ts : List Turn), s.readyHeld = none → s.turns = .reset :: ts →
    step s = .next
      { cfg := s.cfg, busy := false, p2c := none, c2p := none, palLocked := false
        fault := { code := 0, port := false, disp := false, offset := 0 }
        dispatchEn := false, initDone := false, streamOpen := false, opQueue := []
        winCol := 0, winRow := 0, fillColor := 0, fillXY := 0, fillWH := 0, bl := false
        linebuf := [], palette := []
        pins := { sck := false, mosi := false, csn := true, dc := true, rstn := true, bl := false }
        phase := .off
        portP := { reqs := s.portP.reqs, hold := none, answer := none }
        portC := { reqs := s.portC.reqs, hold := none, answer := none }
        trace := s.trace, panel := s.panel, turns := ts }

/-- The busy-flag invariant with the dispatcher as the consumer: as long as P does not write 1 to P_BUSY,
every step keeps BUSY = 1 exactly while one DRAW_LINE word is between its push and its mark_free
(43_busy_status.md R276, 44_dispatcher.md R298). -/
def Obligations.StepKeepsBusyExact : Prop :=
  ∀ s t : State, s.Inv → s.BusyExact → s.dispatchEn = true →
    (∀ a ∈ s.portP.reqs, a.write = true → a.off = 0x0004 → a.data.getLsbD 0 = false) →
    step s = .next t → t.BusyExact

/-- While the dispatcher runs, every step keeps the stream open exactly between D's C_STREAM_BEGIN and
its C_STREAM_END (44_dispatcher.md R295, R298). -/
def Obligations.StepKeepsStreamPaired : Prop :=
  ∀ s t : State, s.Inv → s.StreamPaired → s.dispatchEn = true → step s = .next t → t.StreamPaired

/-- D's faults are exactly BAD_COMMAND, ROW_RANGE, UNINIT_READ and PALETTE_INDEX, always with PORT = 1
and DISP = 1, and each records its offset: 0x0008 for BAD_COMMAND, C_DRAW_LINE's for ROW_RANGE, and for
the first element that does not map the element's own, or that of the palette entry it names
(44_dispatcher.md R296 to R298, 40_panellink.md R170). And D does fault: when it issues C_DRAW_LINE with
BUSY = 1, a row at or beyond SRC_H raises ROW_RANGE, and the first element that does not map its own
fault, with nothing queued and BUSY still 1 (R293, R297). -/
def Obligations.DispatcherFaults : Prop :=
  (∀ (s t : State) (ts : List Turn), s.Inv → s.BusyExact → s.StreamPaired → s.cfg.Legal →
    s.readyHeld = none → s.turns = .d :: ts → s.faulted = false → step s = .next t →
    t.faulted = true →
    t.fault.port = true ∧ t.fault.disp = true ∧
    (t.fault.code = 0x0D ∧ t.fault.offset = 0x0008 ∨
     t.fault.code = 0x0E ∧ t.fault.offset = 0x0080 ∨
     ∃ i, i < s.cfg.lineW ∧
      (∀ j, j < i → s.Maps j) ∧
      (t.fault.code = 0x0A ∧ s.linebuf.read i = none ∧
          t.fault.offset = BitVec.ofNat 16 (0x1000 + 4 * i) ∨
       ∃ e, s.linebuf.read i = some e ∧
        (t.fault.code = 0x0B ∧ e.extractLsb' 4 4 ≠ 0 ∧
            t.fault.offset = BitVec.ofNat 16 (0x1000 + 4 * i) ∨
         t.fault.code = 0x0A ∧ e.extractLsb' 4 4 = 0 ∧
            s.palette.read (e.extractLsb' 0 4).toNat = none ∧
            t.fault.offset = BitVec.ofNat 16 (0x100 + 4 * (e.extractLsb' 0 4).toNat))))) ∧
  (∀ (s : State) (ts : List Turn) (row : Half), s.readyHeld = none → s.turns = .d :: ts →
    s.faulted = false → s.phase = .exec (BitVec.ofNat 32 (0x01000000 + row.toNat)) 0 false →
    s.streamOpen = false → s.busy = true →
    (s.cfg.srcH ≤ row.toNat → RaisesD s ts 0x0E 0x0080) ∧
    (row.toNat < s.cfg.srcH → ∀ i, i < s.cfg.lineW → (∀ j, j < i → s.Maps j) →
      (s.linebuf.read i = none → RaisesD s ts 0x0A (BitVec.ofNat 16 (0x1000 + 4 * i))) ∧
      (∀ e, s.linebuf.read i = some e → e.extractLsb' 4 4 ≠ 0 →
        RaisesD s ts 0x0B (BitVec.ofNat 16 (0x1000 + 4 * i))) ∧
      (∀ e, s.linebuf.read i = some e → e.extractLsb' 4 4 = 0 →
        s.palette.read (e.extractLsb' 0 4).toNat = none →
        RaisesD s ts 0x0A (BitVec.ofNat 16 (0x100 + 4 * (e.extractLsb' 0 4).toNat)))))

/-! ### Timing figures -/

/-- The minimum settle time and the bytes sent of every row of 70_reset_and_hazards.md R360's table, as
sums over the events that the operation queues when agent C's write of it passes its checks. -/
def Obligations.TimingFigures : Prop :=
  ∀ (s : State) (v : Word), s.OwnedByC →
    TakesC (.wCBacklight v) s 0 0 ∧
    (s.streamOpen = true → TakesC (.wCPixel v) s 0 2 ∧ TakesC (.wCStreamEnd v) s 0 0) ∧
    (s.streamOpen = false →
      TakesC (.wCInit v) s 590 19 ∧ TakesC (.wCStreamBegin v) s 0 0 ∧
      TakesC (.wCInvert v) s 0 1 ∧ TakesC (.wCIdle v) s 0 1 ∧
      TakesC (.wCPower v) s (if v.getLsbD 0 then s.cfg.slpinSettleMs else 120) 1 ∧
      (∀ cs ce rs re : Half, s.winCol = ce ++ cs → s.winRow = re ++ rs →
        cs.toNat ≤ ce.toNat → rs.toNat ≤ re.toNat →
        ce.toNat < s.cfg.panelW → re.toNat < s.cfg.panelH → TakesC (.wCWinApply v) s 0 11) ∧
      ((v.extractLsb' 0 16).toNat < s.cfg.panelW → (v.extractLsb' 16 16).toNat < s.cfg.panelH →
        TakesC (.wCSetAddress v) s 0 11) ∧
      (∀ x y w h : Half, s.fillXY = y ++ x → s.fillWH = h ++ w → w.toNat ≠ 0 → h.toNat ≠ 0 →
        x.toNat + w.toNat ≤ s.cfg.panelW → y.toNat + h.toNat ≤ s.cfg.panelH →
        TakesC (.wCFillGo v) s 0 (11 + 2 * (w.toNat * h.toNat))) ∧
      (s.busy = true → (v.extractLsb' 0 16).toNat < s.cfg.srcH →
        (∀ i, i < s.cfg.lineW → s.Maps i) →
        TakesC (.wCDrawLine v) s 0 (11 + 2 * s.cfg.lineW)))
end

