-- ==== Sys2Proof/Laws/State.lean ====
section
/-! SUPPORT. One lemma for each field of the state and each shared update: what the update does to the
field. Later proofs rewrite with these and never unfold an update. -/

namespace Sys2Proof.Machine

/-! ### Ports -/

@[simp] theorem State.setPort_cfg (s : State) (pid : PortId) (q : Port) : (s.setPort pid q).cfg = s.cfg := by cases pid <;> rfl
@[simp] theorem State.setPort_busy (s : State) (pid : PortId) (q : Port) : (s.setPort pid q).busy = s.busy := by cases pid <;> rfl
@[simp] theorem State.setPort_p2c (s : State) (pid : PortId) (q : Port) : (s.setPort pid q).p2c = s.p2c := by cases pid <;> rfl
@[simp] theorem State.setPort_c2p (s : State) (pid : PortId) (q : Port) : (s.setPort pid q).c2p = s.c2p := by cases pid <;> rfl
@[simp] theorem State.setPort_palLocked (s : State) (pid : PortId) (q : Port) : (s.setPort pid q).palLocked = s.palLocked := by cases pid <;> rfl
@[simp] theorem State.setPort_fault (s : State) (pid : PortId) (q : Port) : (s.setPort pid q).fault = s.fault := by cases pid <;> rfl
@[simp] theorem State.setPort_dispatchEn (s : State) (pid : PortId) (q : Port) : (s.setPort pid q).dispatchEn = s.dispatchEn := by cases pid <;> rfl
@[simp] theorem State.setPort_initDone (s : State) (pid : PortId) (q : Port) : (s.setPort pid q).initDone = s.initDone := by cases pid <;> rfl
@[simp] theorem State.setPort_streamOpen (s : State) (pid : PortId) (q : Port) : (s.setPort pid q).streamOpen = s.streamOpen := by cases pid <;> rfl
@[simp] theorem State.setPort_opQueue (s : State) (pid : PortId) (q : Port) : (s.setPort pid q).opQueue = s.opQueue := by cases pid <;> rfl
@[simp] theorem State.setPort_winCol (s : State) (pid : PortId) (q : Port) : (s.setPort pid q).winCol = s.winCol := by cases pid <;> rfl
@[simp] theorem State.setPort_winRow (s : State) (pid : PortId) (q : Port) : (s.setPort pid q).winRow = s.winRow := by cases pid <;> rfl
@[simp] theorem State.setPort_fillColor (s : State) (pid : PortId) (q : Port) : (s.setPort pid q).fillColor = s.fillColor := by cases pid <;> rfl
@[simp] theorem State.setPort_fillXY (s : State) (pid : PortId) (q : Port) : (s.setPort pid q).fillXY = s.fillXY := by cases pid <;> rfl
@[simp] theorem State.setPort_fillWH (s : State) (pid : PortId) (q : Port) : (s.setPort pid q).fillWH = s.fillWH := by cases pid <;> rfl
@[simp] theorem State.setPort_bl (s : State) (pid : PortId) (q : Port) : (s.setPort pid q).bl = s.bl := by cases pid <;> rfl
@[simp] theorem State.setPort_linebuf (s : State) (pid : PortId) (q : Port) : (s.setPort pid q).linebuf = s.linebuf := by cases pid <;> rfl
@[simp] theorem State.setPort_palette (s : State) (pid : PortId) (q : Port) : (s.setPort pid q).palette = s.palette := by cases pid <;> rfl
@[simp] theorem State.setPort_pins (s : State) (pid : PortId) (q : Port) : (s.setPort pid q).pins = s.pins := by cases pid <;> rfl
@[simp] theorem State.setPort_phase (s : State) (pid : PortId) (q : Port) : (s.setPort pid q).phase = s.phase := by cases pid <;> rfl
@[simp] theorem State.setPort_trace (s : State) (pid : PortId) (q : Port) : (s.setPort pid q).trace = s.trace := by cases pid <;> rfl
@[simp] theorem State.setPort_panel (s : State) (pid : PortId) (q : Port) : (s.setPort pid q).panel = s.panel := by cases pid <;> rfl
@[simp] theorem State.setPort_turns (s : State) (pid : PortId) (q : Port) : (s.setPort pid q).turns = s.turns := by cases pid <;> rfl

@[simp] theorem State.setPort_p_portP (s : State) (q : Port) : (s.setPort .p q).portP = q := rfl
@[simp] theorem State.setPort_p_portC (s : State) (q : Port) : (s.setPort .p q).portC = s.portC := rfl
@[simp] theorem State.setPort_c_portP (s : State) (q : Port) : (s.setPort .c q).portP = s.portP := rfl
@[simp] theorem State.setPort_c_portC (s : State) (q : Port) : (s.setPort .c q).portC = q := rfl
@[simp] theorem State.port_p (s : State) : s.port .p = s.portP := rfl
@[simp] theorem State.port_c (s : State) : s.port .c = s.portC := rfl

@[simp] theorem State.complete_cfg (s : State) (pid : PortId) (ans : Option Word) : (s.complete pid ans).cfg = s.cfg := by cases pid <;> rfl
@[simp] theorem State.complete_busy (s : State) (pid : PortId) (ans : Option Word) : (s.complete pid ans).busy = s.busy := by cases pid <;> rfl
@[simp] theorem State.complete_p2c (s : State) (pid : PortId) (ans : Option Word) : (s.complete pid ans).p2c = s.p2c := by cases pid <;> rfl
@[simp] theorem State.complete_c2p (s : State) (pid : PortId) (ans : Option Word) : (s.complete pid ans).c2p = s.c2p := by cases pid <;> rfl
@[simp] theorem State.complete_palLocked (s : State) (pid : PortId) (ans : Option Word) : (s.complete pid ans).palLocked = s.palLocked := by cases pid <;> rfl
@[simp] theorem State.complete_fault (s : State) (pid : PortId) (ans : Option Word) : (s.complete pid ans).fault = s.fault := by cases pid <;> rfl
@[simp] theorem State.complete_dispatchEn (s : State) (pid : PortId) (ans : Option Word) : (s.complete pid ans).dispatchEn = s.dispatchEn := by cases pid <;> rfl
@[simp] theorem State.complete_initDone (s : State) (pid : PortId) (ans : Option Word) : (s.complete pid ans).initDone = s.initDone := by cases pid <;> rfl
@[simp] theorem State.complete_streamOpen (s : State) (pid : PortId) (ans : Option Word) : (s.complete pid ans).streamOpen = s.streamOpen := by cases pid <;> rfl
@[simp] theorem State.complete_opQueue (s : State) (pid : PortId) (ans : Option Word) : (s.complete pid ans).opQueue = s.opQueue := by cases pid <;> rfl
@[simp] theorem State.complete_winCol (s : State) (pid : PortId) (ans : Option Word) : (s.complete pid ans).winCol = s.winCol := by cases pid <;> rfl
@[simp] theorem State.complete_winRow (s : State) (pid : PortId) (ans : Option Word) : (s.complete pid ans).winRow = s.winRow := by cases pid <;> rfl
@[simp] theorem State.complete_fillColor (s : State) (pid : PortId) (ans : Option Word) : (s.complete pid ans).fillColor = s.fillColor := by cases pid <;> rfl
@[simp] theorem State.complete_fillXY (s : State) (pid : PortId) (ans : Option Word) : (s.complete pid ans).fillXY = s.fillXY := by cases pid <;> rfl
@[simp] theorem State.complete_fillWH (s : State) (pid : PortId) (ans : Option Word) : (s.complete pid ans).fillWH = s.fillWH := by cases pid <;> rfl
@[simp] theorem State.complete_bl (s : State) (pid : PortId) (ans : Option Word) : (s.complete pid ans).bl = s.bl := by cases pid <;> rfl
@[simp] theorem State.complete_linebuf (s : State) (pid : PortId) (ans : Option Word) : (s.complete pid ans).linebuf = s.linebuf := by cases pid <;> rfl
@[simp] theorem State.complete_palette (s : State) (pid : PortId) (ans : Option Word) : (s.complete pid ans).palette = s.palette := by cases pid <;> rfl
@[simp] theorem State.complete_pins (s : State) (pid : PortId) (ans : Option Word) : (s.complete pid ans).pins = s.pins := by cases pid <;> rfl
@[simp] theorem State.complete_phase (s : State) (pid : PortId) (ans : Option Word) : (s.complete pid ans).phase = s.phase := by cases pid <;> rfl
@[simp] theorem State.complete_trace (s : State) (pid : PortId) (ans : Option Word) : (s.complete pid ans).trace = s.trace := by cases pid <;> rfl
@[simp] theorem State.complete_panel (s : State) (pid : PortId) (ans : Option Word) : (s.complete pid ans).panel = s.panel := by cases pid <;> rfl
@[simp] theorem State.complete_turns (s : State) (pid : PortId) (ans : Option Word) : (s.complete pid ans).turns = s.turns := by cases pid <;> rfl

@[simp] theorem State.complete_p_portP (s : State) (ans : Option Word) :
    (s.complete .p ans).portP = { s.portP with hold := none, answer := ans } := rfl
@[simp] theorem State.complete_p_portC (s : State) (ans : Option Word) : (s.complete .p ans).portC = s.portC := rfl
@[simp] theorem State.complete_c_portP (s : State) (ans : Option Word) : (s.complete .c ans).portP = s.portP := rfl
@[simp] theorem State.complete_c_portC (s : State) (ans : Option Word) :
    (s.complete .c ans).portC = { s.portC with hold := none, answer := ans } := rfl

@[simp] theorem State.holdPort_cfg (s : State) (pid : PortId) (h : Hold) : (s.holdPort pid h).cfg = s.cfg := by cases pid <;> rfl
@[simp] theorem State.holdPort_busy (s : State) (pid : PortId) (h : Hold) : (s.holdPort pid h).busy = s.busy := by cases pid <;> rfl
@[simp] theorem State.holdPort_p2c (s : State) (pid : PortId) (h : Hold) : (s.holdPort pid h).p2c = s.p2c := by cases pid <;> rfl
@[simp] theorem State.holdPort_c2p (s : State) (pid : PortId) (h : Hold) : (s.holdPort pid h).c2p = s.c2p := by cases pid <;> rfl
@[simp] theorem State.holdPort_palLocked (s : State) (pid : PortId) (h : Hold) : (s.holdPort pid h).palLocked = s.palLocked := by cases pid <;> rfl
@[simp] theorem State.holdPort_fault (s : State) (pid : PortId) (h : Hold) : (s.holdPort pid h).fault = s.fault := by cases pid <;> rfl
@[simp] theorem State.holdPort_dispatchEn (s : State) (pid : PortId) (h : Hold) : (s.holdPort pid h).dispatchEn = s.dispatchEn := by cases pid <;> rfl
@[simp] theorem State.holdPort_initDone (s : State) (pid : PortId) (h : Hold) : (s.holdPort pid h).initDone = s.initDone := by cases pid <;> rfl
@[simp] theorem State.holdPort_streamOpen (s : State) (pid : PortId) (h : Hold) : (s.holdPort pid h).streamOpen = s.streamOpen := by cases pid <;> rfl
@[simp] theorem State.holdPort_opQueue (s : State) (pid : PortId) (h : Hold) : (s.holdPort pid h).opQueue = s.opQueue := by cases pid <;> rfl
@[simp] theorem State.holdPort_winCol (s : State) (pid : PortId) (h : Hold) : (s.holdPort pid h).winCol = s.winCol := by cases pid <;> rfl
@[simp] theorem State.holdPort_winRow (s : State) (pid : PortId) (h : Hold) : (s.holdPort pid h).winRow = s.winRow := by cases pid <;> rfl
@[simp] theorem State.holdPort_fillColor (s : State) (pid : PortId) (h : Hold) : (s.holdPort pid h).fillColor = s.fillColor := by cases pid <;> rfl
@[simp] theorem State.holdPort_fillXY (s : State) (pid : PortId) (h : Hold) : (s.holdPort pid h).fillXY = s.fillXY := by cases pid <;> rfl
@[simp] theorem State.holdPort_fillWH (s : State) (pid : PortId) (h : Hold) : (s.holdPort pid h).fillWH = s.fillWH := by cases pid <;> rfl
@[simp] theorem State.holdPort_bl (s : State) (pid : PortId) (h : Hold) : (s.holdPort pid h).bl = s.bl := by cases pid <;> rfl
@[simp] theorem State.holdPort_linebuf (s : State) (pid : PortId) (h : Hold) : (s.holdPort pid h).linebuf = s.linebuf := by cases pid <;> rfl
@[simp] theorem State.holdPort_palette (s : State) (pid : PortId) (h : Hold) : (s.holdPort pid h).palette = s.palette := by cases pid <;> rfl
@[simp] theorem State.holdPort_pins (s : State) (pid : PortId) (h : Hold) : (s.holdPort pid h).pins = s.pins := by cases pid <;> rfl
@[simp] theorem State.holdPort_phase (s : State) (pid : PortId) (h : Hold) : (s.holdPort pid h).phase = s.phase := by cases pid <;> rfl
@[simp] theorem State.holdPort_trace (s : State) (pid : PortId) (h : Hold) : (s.holdPort pid h).trace = s.trace := by cases pid <;> rfl
@[simp] theorem State.holdPort_panel (s : State) (pid : PortId) (h : Hold) : (s.holdPort pid h).panel = s.panel := by cases pid <;> rfl
@[simp] theorem State.holdPort_turns (s : State) (pid : PortId) (h : Hold) : (s.holdPort pid h).turns = s.turns := by cases pid <;> rfl

@[simp] theorem State.holdPort_p_portP (s : State) (h : Hold) :
    (s.holdPort .p h).portP = { s.portP with hold := some h } := rfl
@[simp] theorem State.holdPort_p_portC (s : State) (h : Hold) : (s.holdPort .p h).portC = s.portC := rfl
@[simp] theorem State.holdPort_c_portP (s : State) (h : Hold) : (s.holdPort .c h).portP = s.portP := rfl
@[simp] theorem State.holdPort_c_portC (s : State) (h : Hold) :
    (s.holdPort .c h).portC = { s.portC with hold := some h } := rfl

@[simp] theorem State.release_cfg (s : State) (pid : PortId) : (s.release pid).cfg = s.cfg := by cases pid <;> rfl
@[simp] theorem State.release_busy (s : State) (pid : PortId) : (s.release pid).busy = s.busy := by cases pid <;> rfl
@[simp] theorem State.release_p2c (s : State) (pid : PortId) : (s.release pid).p2c = s.p2c := by cases pid <;> rfl
@[simp] theorem State.release_c2p (s : State) (pid : PortId) : (s.release pid).c2p = s.c2p := by cases pid <;> rfl
@[simp] theorem State.release_palLocked (s : State) (pid : PortId) : (s.release pid).palLocked = s.palLocked := by cases pid <;> rfl
@[simp] theorem State.release_fault (s : State) (pid : PortId) : (s.release pid).fault = s.fault := by cases pid <;> rfl
@[simp] theorem State.release_dispatchEn (s : State) (pid : PortId) : (s.release pid).dispatchEn = s.dispatchEn := by cases pid <;> rfl
@[simp] theorem State.release_initDone (s : State) (pid : PortId) : (s.release pid).initDone = s.initDone := by cases pid <;> rfl
@[simp] theorem State.release_streamOpen (s : State) (pid : PortId) : (s.release pid).streamOpen = s.streamOpen := by cases pid <;> rfl
@[simp] theorem State.release_opQueue (s : State) (pid : PortId) : (s.release pid).opQueue = s.opQueue := by cases pid <;> rfl
@[simp] theorem State.release_winCol (s : State) (pid : PortId) : (s.release pid).winCol = s.winCol := by cases pid <;> rfl
@[simp] theorem State.release_winRow (s : State) (pid : PortId) : (s.release pid).winRow = s.winRow := by cases pid <;> rfl
@[simp] theorem State.release_fillColor (s : State) (pid : PortId) : (s.release pid).fillColor = s.fillColor := by cases pid <;> rfl
@[simp] theorem State.release_fillXY (s : State) (pid : PortId) : (s.release pid).fillXY = s.fillXY := by cases pid <;> rfl
@[simp] theorem State.release_fillWH (s : State) (pid : PortId) : (s.release pid).fillWH = s.fillWH := by cases pid <;> rfl
@[simp] theorem State.release_bl (s : State) (pid : PortId) : (s.release pid).bl = s.bl := by cases pid <;> rfl
@[simp] theorem State.release_linebuf (s : State) (pid : PortId) : (s.release pid).linebuf = s.linebuf := by cases pid <;> rfl
@[simp] theorem State.release_palette (s : State) (pid : PortId) : (s.release pid).palette = s.palette := by cases pid <;> rfl
@[simp] theorem State.release_pins (s : State) (pid : PortId) : (s.release pid).pins = s.pins := by cases pid <;> rfl
@[simp] theorem State.release_phase (s : State) (pid : PortId) : (s.release pid).phase = s.phase := by cases pid <;> rfl
@[simp] theorem State.release_trace (s : State) (pid : PortId) : (s.release pid).trace = s.trace := by cases pid <;> rfl
@[simp] theorem State.release_panel (s : State) (pid : PortId) : (s.release pid).panel = s.panel := by cases pid <;> rfl
@[simp] theorem State.release_turns (s : State) (pid : PortId) : (s.release pid).turns = s.turns := by cases pid <;> rfl

@[simp] theorem State.release_p_portP (s : State) :
    (s.release .p).portP = { s.portP with hold := none } := rfl
@[simp] theorem State.release_p_portC (s : State) : (s.release .p).portC = s.portC := rfl
@[simp] theorem State.release_c_portP (s : State) : (s.release .c).portP = s.portP := rfl
@[simp] theorem State.release_c_portC (s : State) :
    (s.release .c).portC = { s.portC with hold := none } := rfl

/-! ### The queue and the staging registers -/

@[simp] theorem State.enqueue_cfg (s : State) (q : List QItem) : (s.enqueue q).cfg = s.cfg := rfl
@[simp] theorem State.enqueue_busy (s : State) (q : List QItem) : (s.enqueue q).busy = s.busy := rfl
@[simp] theorem State.enqueue_p2c (s : State) (q : List QItem) : (s.enqueue q).p2c = s.p2c := rfl
@[simp] theorem State.enqueue_c2p (s : State) (q : List QItem) : (s.enqueue q).c2p = s.c2p := rfl
@[simp] theorem State.enqueue_palLocked (s : State) (q : List QItem) : (s.enqueue q).palLocked = s.palLocked := rfl
@[simp] theorem State.enqueue_fault (s : State) (q : List QItem) : (s.enqueue q).fault = s.fault := rfl
@[simp] theorem State.enqueue_dispatchEn (s : State) (q : List QItem) : (s.enqueue q).dispatchEn = s.dispatchEn := rfl
@[simp] theorem State.enqueue_initDone (s : State) (q : List QItem) : (s.enqueue q).initDone = s.initDone := rfl
@[simp] theorem State.enqueue_streamOpen (s : State) (q : List QItem) : (s.enqueue q).streamOpen = s.streamOpen := rfl
@[simp] theorem State.enqueue_opQueue (s : State) (q : List QItem) : (s.enqueue q).opQueue = s.opQueue ++ q := rfl
@[simp] theorem State.enqueue_winCol (s : State) (q : List QItem) : (s.enqueue q).winCol = s.winCol := rfl
@[simp] theorem State.enqueue_winRow (s : State) (q : List QItem) : (s.enqueue q).winRow = s.winRow := rfl
@[simp] theorem State.enqueue_fillColor (s : State) (q : List QItem) : (s.enqueue q).fillColor = s.fillColor := rfl
@[simp] theorem State.enqueue_fillXY (s : State) (q : List QItem) : (s.enqueue q).fillXY = s.fillXY := rfl
@[simp] theorem State.enqueue_fillWH (s : State) (q : List QItem) : (s.enqueue q).fillWH = s.fillWH := rfl
@[simp] theorem State.enqueue_bl (s : State) (q : List QItem) : (s.enqueue q).bl = s.bl := rfl
@[simp] theorem State.enqueue_linebuf (s : State) (q : List QItem) : (s.enqueue q).linebuf = s.linebuf := rfl
@[simp] theorem State.enqueue_palette (s : State) (q : List QItem) : (s.enqueue q).palette = s.palette := rfl
@[simp] theorem State.enqueue_pins (s : State) (q : List QItem) : (s.enqueue q).pins = s.pins := rfl
@[simp] theorem State.enqueue_phase (s : State) (q : List QItem) : (s.enqueue q).phase = s.phase := rfl
@[simp] theorem State.enqueue_portP (s : State) (q : List QItem) : (s.enqueue q).portP = s.portP := rfl
@[simp] theorem State.enqueue_portC (s : State) (q : List QItem) : (s.enqueue q).portC = s.portC := rfl
@[simp] theorem State.enqueue_trace (s : State) (q : List QItem) : (s.enqueue q).trace = s.trace := rfl
@[simp] theorem State.enqueue_panel (s : State) (q : List QItem) : (s.enqueue q).panel = s.panel := rfl
@[simp] theorem State.enqueue_turns (s : State) (q : List QItem) : (s.enqueue q).turns = s.turns := rfl

@[simp] theorem State.stageWindow_cfg (s : State) (cs ce rs re : Half) : (s.stageWindow cs ce rs re).cfg = s.cfg := rfl
@[simp] theorem State.stageWindow_busy (s : State) (cs ce rs re : Half) : (s.stageWindow cs ce rs re).busy = s.busy := rfl
@[simp] theorem State.stageWindow_p2c (s : State) (cs ce rs re : Half) : (s.stageWindow cs ce rs re).p2c = s.p2c := rfl
@[simp] theorem State.stageWindow_c2p (s : State) (cs ce rs re : Half) : (s.stageWindow cs ce rs re).c2p = s.c2p := rfl
@[simp] theorem State.stageWindow_palLocked (s : State) (cs ce rs re : Half) : (s.stageWindow cs ce rs re).palLocked = s.palLocked := rfl
@[simp] theorem State.stageWindow_fault (s : State) (cs ce rs re : Half) : (s.stageWindow cs ce rs re).fault = s.fault := rfl
@[simp] theorem State.stageWindow_dispatchEn (s : State) (cs ce rs re : Half) : (s.stageWindow cs ce rs re).dispatchEn = s.dispatchEn := rfl
@[simp] theorem State.stageWindow_initDone (s : State) (cs ce rs re : Half) : (s.stageWindow cs ce rs re).initDone = s.initDone := rfl
@[simp] theorem State.stageWindow_streamOpen (s : State) (cs ce rs re : Half) : (s.stageWindow cs ce rs re).streamOpen = s.streamOpen := rfl
@[simp] theorem State.stageWindow_opQueue (s : State) (cs ce rs re : Half) : (s.stageWindow cs ce rs re).opQueue = s.opQueue := rfl
@[simp] theorem State.stageWindow_winCol (s : State) (cs ce rs re : Half) : (s.stageWindow cs ce rs re).winCol = pairWord ce cs := rfl
@[simp] theorem State.stageWindow_winRow (s : State) (cs ce rs re : Half) : (s.stageWindow cs ce rs re).winRow = pairWord re rs := rfl
@[simp] theorem State.stageWindow_fillColor (s : State) (cs ce rs re : Half) : (s.stageWindow cs ce rs re).fillColor = s.fillColor := rfl
@[simp] theorem State.stageWindow_fillXY (s : State) (cs ce rs re : Half) : (s.stageWindow cs ce rs re).fillXY = s.fillXY := rfl
@[simp] theorem State.stageWindow_fillWH (s : State) (cs ce rs re : Half) : (s.stageWindow cs ce rs re).fillWH = s.fillWH := rfl
@[simp] theorem State.stageWindow_bl (s : State) (cs ce rs re : Half) : (s.stageWindow cs ce rs re).bl = s.bl := rfl
@[simp] theorem State.stageWindow_linebuf (s : State) (cs ce rs re : Half) : (s.stageWindow cs ce rs re).linebuf = s.linebuf := rfl
@[simp] theorem State.stageWindow_palette (s : State) (cs ce rs re : Half) : (s.stageWindow cs ce rs re).palette = s.palette := rfl
@[simp] theorem State.stageWindow_pins (s : State) (cs ce rs re : Half) : (s.stageWindow cs ce rs re).pins = s.pins := rfl
@[simp] theorem State.stageWindow_phase (s : State) (cs ce rs re : Half) : (s.stageWindow cs ce rs re).phase = s.phase := rfl
@[simp] theorem State.stageWindow_portP (s : State) (cs ce rs re : Half) : (s.stageWindow cs ce rs re).portP = s.portP := rfl
@[simp] theorem State.stageWindow_portC (s : State) (cs ce rs re : Half) : (s.stageWindow cs ce rs re).portC = s.portC := rfl
@[simp] theorem State.stageWindow_trace (s : State) (cs ce rs re : Half) : (s.stageWindow cs ce rs re).trace = s.trace := rfl
@[simp] theorem State.stageWindow_panel (s : State) (cs ce rs re : Half) : (s.stageWindow cs ce rs re).panel = s.panel := rfl
@[simp] theorem State.stageWindow_turns (s : State) (cs ce rs re : Half) : (s.stageWindow cs ce rs re).turns = s.turns := rfl

/-! ### Faults and the block reset -/

@[simp] theorem State.raiseFault_cfg (s : State) (t : Trap) (port disp : Bool) : (s.raiseFault t port disp).cfg = s.cfg := rfl
@[simp] theorem State.raiseFault_busy (s : State) (t : Trap) (port disp : Bool) : (s.raiseFault t port disp).busy = s.busy := rfl
@[simp] theorem State.raiseFault_p2c (s : State) (t : Trap) (port disp : Bool) : (s.raiseFault t port disp).p2c = s.p2c := rfl
@[simp] theorem State.raiseFault_c2p (s : State) (t : Trap) (port disp : Bool) : (s.raiseFault t port disp).c2p = s.c2p := rfl
@[simp] theorem State.raiseFault_palLocked (s : State) (t : Trap) (port disp : Bool) : (s.raiseFault t port disp).palLocked = s.palLocked := rfl
@[simp] theorem State.raiseFault_dispatchEn (s : State) (t : Trap) (port disp : Bool) : (s.raiseFault t port disp).dispatchEn = s.dispatchEn := rfl
@[simp] theorem State.raiseFault_initDone (s : State) (t : Trap) (port disp : Bool) : (s.raiseFault t port disp).initDone = s.initDone := rfl
@[simp] theorem State.raiseFault_streamOpen (s : State) (t : Trap) (port disp : Bool) : (s.raiseFault t port disp).streamOpen = s.streamOpen := rfl
@[simp] theorem State.raiseFault_opQueue (s : State) (t : Trap) (port disp : Bool) : (s.raiseFault t port disp).opQueue = [] := rfl
@[simp] theorem State.raiseFault_winCol (s : State) (t : Trap) (port disp : Bool) : (s.raiseFault t port disp).winCol = s.winCol := rfl
@[simp] theorem State.raiseFault_winRow (s : State) (t : Trap) (port disp : Bool) : (s.raiseFault t port disp).winRow = s.winRow := rfl
@[simp] theorem State.raiseFault_fillColor (s : State) (t : Trap) (port disp : Bool) : (s.raiseFault t port disp).fillColor = s.fillColor := rfl
@[simp] theorem State.raiseFault_fillXY (s : State) (t : Trap) (port disp : Bool) : (s.raiseFault t port disp).fillXY = s.fillXY := rfl
@[simp] theorem State.raiseFault_fillWH (s : State) (t : Trap) (port disp : Bool) : (s.raiseFault t port disp).fillWH = s.fillWH := rfl
@[simp] theorem State.raiseFault_bl (s : State) (t : Trap) (port disp : Bool) : (s.raiseFault t port disp).bl = s.bl := rfl
@[simp] theorem State.raiseFault_linebuf (s : State) (t : Trap) (port disp : Bool) : (s.raiseFault t port disp).linebuf = s.linebuf := rfl
@[simp] theorem State.raiseFault_palette (s : State) (t : Trap) (port disp : Bool) : (s.raiseFault t port disp).palette = s.palette := rfl
@[simp] theorem State.raiseFault_pins (s : State) (t : Trap) (port disp : Bool) : (s.raiseFault t port disp).pins = s.pins := rfl
@[simp] theorem State.raiseFault_phase (s : State) (t : Trap) (port disp : Bool) : (s.raiseFault t port disp).phase = s.phase := rfl
@[simp] theorem State.raiseFault_portP (s : State) (t : Trap) (port disp : Bool) : (s.raiseFault t port disp).portP = s.portP.dropHeld := rfl
@[simp] theorem State.raiseFault_portC (s : State) (t : Trap) (port disp : Bool) : (s.raiseFault t port disp).portC = s.portC.dropHeld := rfl
@[simp] theorem State.raiseFault_trace (s : State) (t : Trap) (port disp : Bool) : (s.raiseFault t port disp).trace = s.trace := rfl
@[simp] theorem State.raiseFault_panel (s : State) (t : Trap) (port disp : Bool) : (s.raiseFault t port disp).panel = s.panel := rfl
@[simp] theorem State.raiseFault_turns (s : State) (t : Trap) (port disp : Bool) : (s.raiseFault t port disp).turns = s.turns := rfl

@[simp] theorem State.blockReset_cfg (s : State) : (s.blockReset).cfg = s.cfg := rfl
@[simp] theorem State.blockReset_busy (s : State) : (s.blockReset).busy = false := rfl
@[simp] theorem State.blockReset_p2c (s : State) : (s.blockReset).p2c = none := rfl
@[simp] theorem State.blockReset_c2p (s : State) : (s.blockReset).c2p = none := rfl
@[simp] theorem State.blockReset_palLocked (s : State) : (s.blockReset).palLocked = false := rfl
@[simp] theorem State.blockReset_fault (s : State) : (s.blockReset).fault = FaultLatch.none := rfl
@[simp] theorem State.blockReset_dispatchEn (s : State) : (s.blockReset).dispatchEn = false := rfl
@[simp] theorem State.blockReset_initDone (s : State) : (s.blockReset).initDone = false := rfl
@[simp] theorem State.blockReset_streamOpen (s : State) : (s.blockReset).streamOpen = false := rfl
@[simp] theorem State.blockReset_opQueue (s : State) : (s.blockReset).opQueue = [] := rfl
@[simp] theorem State.blockReset_winCol (s : State) : (s.blockReset).winCol = 0 := rfl
@[simp] theorem State.blockReset_winRow (s : State) : (s.blockReset).winRow = 0 := rfl
@[simp] theorem State.blockReset_fillColor (s : State) : (s.blockReset).fillColor = 0 := rfl
@[simp] theorem State.blockReset_fillXY (s : State) : (s.blockReset).fillXY = 0 := rfl
@[simp] theorem State.blockReset_fillWH (s : State) : (s.blockReset).fillWH = 0 := rfl
@[simp] theorem State.blockReset_bl (s : State) : (s.blockReset).bl = false := rfl
@[simp] theorem State.blockReset_linebuf (s : State) : (s.blockReset).linebuf = [] := rfl
@[simp] theorem State.blockReset_palette (s : State) : (s.blockReset).palette = [] := rfl
@[simp] theorem State.blockReset_pins (s : State) : (s.blockReset).pins = Pins.reset := rfl
@[simp] theorem State.blockReset_phase (s : State) : (s.blockReset).phase = .off := rfl
@[simp] theorem State.blockReset_portP (s : State) : (s.blockReset).portP = { Port.reset with reqs := s.portP.reqs } := rfl
@[simp] theorem State.blockReset_portC (s : State) : (s.blockReset).portC = { Port.reset with reqs := s.portC.reqs } := rfl
@[simp] theorem State.blockReset_trace (s : State) : (s.blockReset).trace = s.trace := rfl
@[simp] theorem State.blockReset_panel (s : State) : (s.blockReset).panel = s.panel := rfl
@[simp] theorem State.blockReset_turns (s : State) : (s.blockReset).turns = s.turns := rfl

/-! ### The dispatcher and the engine -/

@[simp] theorem State.dispatcherDone_cfg (s : State) : (s.dispatcherDone).cfg = s.cfg := by
  unfold State.dispatcherDone; split <;> rfl
@[simp] theorem State.dispatcherDone_busy (s : State) : (s.dispatcherDone).busy = s.busy := by
  unfold State.dispatcherDone; split <;> rfl
@[simp] theorem State.dispatcherDone_p2c (s : State) : (s.dispatcherDone).p2c = s.p2c := by
  unfold State.dispatcherDone; split <;> rfl
@[simp] theorem State.dispatcherDone_c2p (s : State) : (s.dispatcherDone).c2p = s.c2p := by
  unfold State.dispatcherDone; split <;> rfl
@[simp] theorem State.dispatcherDone_palLocked (s : State) : (s.dispatcherDone).palLocked = s.palLocked := by
  unfold State.dispatcherDone; split <;> rfl
@[simp] theorem State.dispatcherDone_fault (s : State) : (s.dispatcherDone).fault = s.fault := by
  unfold State.dispatcherDone; split <;> rfl
@[simp] theorem State.dispatcherDone_dispatchEn (s : State) : (s.dispatcherDone).dispatchEn = s.dispatchEn := by
  unfold State.dispatcherDone; split <;> rfl
@[simp] theorem State.dispatcherDone_initDone (s : State) : (s.dispatcherDone).initDone = s.initDone := by
  unfold State.dispatcherDone; split <;> rfl
@[simp] theorem State.dispatcherDone_streamOpen (s : State) : (s.dispatcherDone).streamOpen = s.streamOpen := by
  unfold State.dispatcherDone; split <;> rfl
@[simp] theorem State.dispatcherDone_opQueue (s : State) : (s.dispatcherDone).opQueue = s.opQueue := by
  unfold State.dispatcherDone; split <;> rfl
@[simp] theorem State.dispatcherDone_winCol (s : State) : (s.dispatcherDone).winCol = s.winCol := by
  unfold State.dispatcherDone; split <;> rfl
@[simp] theorem State.dispatcherDone_winRow (s : State) : (s.dispatcherDone).winRow = s.winRow := by
  unfold State.dispatcherDone; split <;> rfl
@[simp] theorem State.dispatcherDone_fillColor (s : State) : (s.dispatcherDone).fillColor = s.fillColor := by
  unfold State.dispatcherDone; split <;> rfl
@[simp] theorem State.dispatcherDone_fillXY (s : State) : (s.dispatcherDone).fillXY = s.fillXY := by
  unfold State.dispatcherDone; split <;> rfl
@[simp] theorem State.dispatcherDone_fillWH (s : State) : (s.dispatcherDone).fillWH = s.fillWH := by
  unfold State.dispatcherDone; split <;> rfl
@[simp] theorem State.dispatcherDone_bl (s : State) : (s.dispatcherDone).bl = s.bl := by
  unfold State.dispatcherDone; split <;> rfl
@[simp] theorem State.dispatcherDone_linebuf (s : State) : (s.dispatcherDone).linebuf = s.linebuf := by
  unfold State.dispatcherDone; split <;> rfl
@[simp] theorem State.dispatcherDone_palette (s : State) : (s.dispatcherDone).palette = s.palette := by
  unfold State.dispatcherDone; split <;> rfl
@[simp] theorem State.dispatcherDone_pins (s : State) : (s.dispatcherDone).pins = s.pins := by
  unfold State.dispatcherDone; split <;> rfl
@[simp] theorem State.dispatcherDone_portP (s : State) : (s.dispatcherDone).portP = s.portP := by
  unfold State.dispatcherDone; split <;> rfl
@[simp] theorem State.dispatcherDone_portC (s : State) : (s.dispatcherDone).portC = s.portC := by
  unfold State.dispatcherDone; split <;> rfl
@[simp] theorem State.dispatcherDone_trace (s : State) : (s.dispatcherDone).trace = s.trace := by
  unfold State.dispatcherDone; split <;> rfl
@[simp] theorem State.dispatcherDone_panel (s : State) : (s.dispatcherDone).panel = s.panel := by
  unfold State.dispatcherDone; split <;> rfl
@[simp] theorem State.dispatcherDone_turns (s : State) : (s.dispatcherDone).turns = s.turns := by
  unfold State.dispatcherDone; split <;> rfl

@[simp] theorem State.takeCommand_cfg (s : State) (w : Word) (ops : List (Half × Word)) : (s.takeCommand w ops).cfg = s.cfg := by
  unfold State.takeCommand; split <;> rfl
@[simp] theorem State.takeCommand_busy (s : State) (w : Word) (ops : List (Half × Word)) : (s.takeCommand w ops).busy = s.busy := by
  unfold State.takeCommand; split <;> rfl
@[simp] theorem State.takeCommand_c2p (s : State) (w : Word) (ops : List (Half × Word)) : (s.takeCommand w ops).c2p = s.c2p := by
  unfold State.takeCommand; split <;> rfl
@[simp] theorem State.takeCommand_palLocked (s : State) (w : Word) (ops : List (Half × Word)) : (s.takeCommand w ops).palLocked = s.palLocked := by
  unfold State.takeCommand; split <;> rfl
@[simp] theorem State.takeCommand_fault (s : State) (w : Word) (ops : List (Half × Word)) : (s.takeCommand w ops).fault = s.fault := by
  unfold State.takeCommand; split <;> rfl
@[simp] theorem State.takeCommand_dispatchEn (s : State) (w : Word) (ops : List (Half × Word)) : (s.takeCommand w ops).dispatchEn = s.dispatchEn := by
  unfold State.takeCommand; split <;> rfl
@[simp] theorem State.takeCommand_initDone (s : State) (w : Word) (ops : List (Half × Word)) : (s.takeCommand w ops).initDone = s.initDone := by
  unfold State.takeCommand; split <;> rfl
@[simp] theorem State.takeCommand_streamOpen (s : State) (w : Word) (ops : List (Half × Word)) : (s.takeCommand w ops).streamOpen = s.streamOpen := by
  unfold State.takeCommand; split <;> rfl
@[simp] theorem State.takeCommand_opQueue (s : State) (w : Word) (ops : List (Half × Word)) : (s.takeCommand w ops).opQueue = s.opQueue := by
  unfold State.takeCommand; split <;> rfl
@[simp] theorem State.takeCommand_winCol (s : State) (w : Word) (ops : List (Half × Word)) : (s.takeCommand w ops).winCol = s.winCol := by
  unfold State.takeCommand; split <;> rfl
@[simp] theorem State.takeCommand_winRow (s : State) (w : Word) (ops : List (Half × Word)) : (s.takeCommand w ops).winRow = s.winRow := by
  unfold State.takeCommand; split <;> rfl
@[simp] theorem State.takeCommand_fillColor (s : State) (w : Word) (ops : List (Half × Word)) : (s.takeCommand w ops).fillColor = s.fillColor := by
  unfold State.takeCommand; split <;> rfl
@[simp] theorem State.takeCommand_fillXY (s : State) (w : Word) (ops : List (Half × Word)) : (s.takeCommand w ops).fillXY = s.fillXY := by
  unfold State.takeCommand; split <;> rfl
@[simp] theorem State.takeCommand_fillWH (s : State) (w : Word) (ops : List (Half × Word)) : (s.takeCommand w ops).fillWH = s.fillWH := by
  unfold State.takeCommand; split <;> rfl
@[simp] theorem State.takeCommand_bl (s : State) (w : Word) (ops : List (Half × Word)) : (s.takeCommand w ops).bl = s.bl := by
  unfold State.takeCommand; split <;> rfl
@[simp] theorem State.takeCommand_linebuf (s : State) (w : Word) (ops : List (Half × Word)) : (s.takeCommand w ops).linebuf = s.linebuf := by
  unfold State.takeCommand; split <;> rfl
@[simp] theorem State.takeCommand_palette (s : State) (w : Word) (ops : List (Half × Word)) : (s.takeCommand w ops).palette = s.palette := by
  unfold State.takeCommand; split <;> rfl
@[simp] theorem State.takeCommand_pins (s : State) (w : Word) (ops : List (Half × Word)) : (s.takeCommand w ops).pins = s.pins := by
  unfold State.takeCommand; split <;> rfl
@[simp] theorem State.takeCommand_portP (s : State) (w : Word) (ops : List (Half × Word)) : (s.takeCommand w ops).portP = s.portP := by
  unfold State.takeCommand; split <;> rfl
@[simp] theorem State.takeCommand_portC (s : State) (w : Word) (ops : List (Half × Word)) : (s.takeCommand w ops).portC = s.portC := by
  unfold State.takeCommand; split <;> rfl
@[simp] theorem State.takeCommand_trace (s : State) (w : Word) (ops : List (Half × Word)) : (s.takeCommand w ops).trace = s.trace := by
  unfold State.takeCommand; split <;> rfl
@[simp] theorem State.takeCommand_panel (s : State) (w : Word) (ops : List (Half × Word)) : (s.takeCommand w ops).panel = s.panel := by
  unfold State.takeCommand; split <;> rfl
@[simp] theorem State.takeCommand_turns (s : State) (w : Word) (ops : List (Half × Word)) : (s.takeCommand w ops).turns = s.turns := by
  unfold State.takeCommand; split <;> rfl

@[simp] theorem State.wireCommand_cfg (s : State) (f : PanelRec → PanelRec) : (s.wireCommand f).cfg = s.cfg := rfl
@[simp] theorem State.wireCommand_busy (s : State) (f : PanelRec → PanelRec) : (s.wireCommand f).busy = s.busy := rfl
@[simp] theorem State.wireCommand_p2c (s : State) (f : PanelRec → PanelRec) : (s.wireCommand f).p2c = s.p2c := rfl
@[simp] theorem State.wireCommand_c2p (s : State) (f : PanelRec → PanelRec) : (s.wireCommand f).c2p = s.c2p := rfl
@[simp] theorem State.wireCommand_palLocked (s : State) (f : PanelRec → PanelRec) : (s.wireCommand f).palLocked = s.palLocked := rfl
@[simp] theorem State.wireCommand_fault (s : State) (f : PanelRec → PanelRec) : (s.wireCommand f).fault = s.fault := rfl
@[simp] theorem State.wireCommand_dispatchEn (s : State) (f : PanelRec → PanelRec) : (s.wireCommand f).dispatchEn = s.dispatchEn := rfl
@[simp] theorem State.wireCommand_initDone (s : State) (f : PanelRec → PanelRec) : (s.wireCommand f).initDone = s.initDone := rfl
@[simp] theorem State.wireCommand_streamOpen (s : State) (f : PanelRec → PanelRec) : (s.wireCommand f).streamOpen = s.streamOpen := rfl
@[simp] theorem State.wireCommand_opQueue (s : State) (f : PanelRec → PanelRec) : (s.wireCommand f).opQueue = s.opQueue := rfl
@[simp] theorem State.wireCommand_winCol (s : State) (f : PanelRec → PanelRec) : (s.wireCommand f).winCol = s.winCol := rfl
@[simp] theorem State.wireCommand_winRow (s : State) (f : PanelRec → PanelRec) : (s.wireCommand f).winRow = s.winRow := rfl
@[simp] theorem State.wireCommand_fillColor (s : State) (f : PanelRec → PanelRec) : (s.wireCommand f).fillColor = s.fillColor := rfl
@[simp] theorem State.wireCommand_fillXY (s : State) (f : PanelRec → PanelRec) : (s.wireCommand f).fillXY = s.fillXY := rfl
@[simp] theorem State.wireCommand_fillWH (s : State) (f : PanelRec → PanelRec) : (s.wireCommand f).fillWH = s.fillWH := rfl
@[simp] theorem State.wireCommand_bl (s : State) (f : PanelRec → PanelRec) : (s.wireCommand f).bl = s.bl := rfl
@[simp] theorem State.wireCommand_linebuf (s : State) (f : PanelRec → PanelRec) : (s.wireCommand f).linebuf = s.linebuf := rfl
@[simp] theorem State.wireCommand_palette (s : State) (f : PanelRec → PanelRec) : (s.wireCommand f).palette = s.palette := rfl
@[simp] theorem State.wireCommand_pins (s : State) (f : PanelRec → PanelRec) : (s.wireCommand f).pins = s.pins := rfl
@[simp] theorem State.wireCommand_phase (s : State) (f : PanelRec → PanelRec) : (s.wireCommand f).phase = s.phase := rfl
@[simp] theorem State.wireCommand_portP (s : State) (f : PanelRec → PanelRec) : (s.wireCommand f).portP = s.portP := rfl
@[simp] theorem State.wireCommand_portC (s : State) (f : PanelRec → PanelRec) : (s.wireCommand f).portC = s.portC := rfl
@[simp] theorem State.wireCommand_trace (s : State) (f : PanelRec → PanelRec) : (s.wireCommand f).trace = s.trace := rfl
@[simp] theorem State.wireCommand_turns (s : State) (f : PanelRec → PanelRec) : (s.wireCommand f).turns = s.turns := rfl

@[simp] theorem State.operationDone_cfg (s : State) (who : Option Issuer) : (s.operationDone who).cfg = s.cfg := by
  rcases who with _ | _ | _ <;> simp [State.operationDone]
@[simp] theorem State.operationDone_busy (s : State) (who : Option Issuer) : (s.operationDone who).busy = s.busy := by
  rcases who with _ | _ | _ <;> simp [State.operationDone]
@[simp] theorem State.operationDone_p2c (s : State) (who : Option Issuer) : (s.operationDone who).p2c = s.p2c := by
  rcases who with _ | _ | _ <;> simp [State.operationDone]
@[simp] theorem State.operationDone_c2p (s : State) (who : Option Issuer) : (s.operationDone who).c2p = s.c2p := by
  rcases who with _ | _ | _ <;> simp [State.operationDone]
@[simp] theorem State.operationDone_palLocked (s : State) (who : Option Issuer) : (s.operationDone who).palLocked = s.palLocked := by
  rcases who with _ | _ | _ <;> simp [State.operationDone]
@[simp] theorem State.operationDone_fault (s : State) (who : Option Issuer) : (s.operationDone who).fault = s.fault := by
  rcases who with _ | _ | _ <;> simp [State.operationDone]
@[simp] theorem State.operationDone_dispatchEn (s : State) (who : Option Issuer) : (s.operationDone who).dispatchEn = s.dispatchEn := by
  rcases who with _ | _ | _ <;> simp [State.operationDone]
@[simp] theorem State.operationDone_initDone (s : State) (who : Option Issuer) : (s.operationDone who).initDone = s.initDone := by
  rcases who with _ | _ | _ <;> simp [State.operationDone]
@[simp] theorem State.operationDone_streamOpen (s : State) (who : Option Issuer) : (s.operationDone who).streamOpen = s.streamOpen := by
  rcases who with _ | _ | _ <;> simp [State.operationDone]
@[simp] theorem State.operationDone_opQueue (s : State) (who : Option Issuer) : (s.operationDone who).opQueue = s.opQueue := by
  rcases who with _ | _ | _ <;> simp [State.operationDone]
@[simp] theorem State.operationDone_winCol (s : State) (who : Option Issuer) : (s.operationDone who).winCol = s.winCol := by
  rcases who with _ | _ | _ <;> simp [State.operationDone]
@[simp] theorem State.operationDone_winRow (s : State) (who : Option Issuer) : (s.operationDone who).winRow = s.winRow := by
  rcases who with _ | _ | _ <;> simp [State.operationDone]
@[simp] theorem State.operationDone_fillColor (s : State) (who : Option Issuer) : (s.operationDone who).fillColor = s.fillColor := by
  rcases who with _ | _ | _ <;> simp [State.operationDone]
@[simp] theorem State.operationDone_fillXY (s : State) (who : Option Issuer) : (s.operationDone who).fillXY = s.fillXY := by
  rcases who with _ | _ | _ <;> simp [State.operationDone]
@[simp] theorem State.operationDone_fillWH (s : State) (who : Option Issuer) : (s.operationDone who).fillWH = s.fillWH := by
  rcases who with _ | _ | _ <;> simp [State.operationDone]
@[simp] theorem State.operationDone_bl (s : State) (who : Option Issuer) : (s.operationDone who).bl = s.bl := by
  rcases who with _ | _ | _ <;> simp [State.operationDone]
@[simp] theorem State.operationDone_linebuf (s : State) (who : Option Issuer) : (s.operationDone who).linebuf = s.linebuf := by
  rcases who with _ | _ | _ <;> simp [State.operationDone]
@[simp] theorem State.operationDone_palette (s : State) (who : Option Issuer) : (s.operationDone who).palette = s.palette := by
  rcases who with _ | _ | _ <;> simp [State.operationDone]
@[simp] theorem State.operationDone_pins (s : State) (who : Option Issuer) : (s.operationDone who).pins = s.pins := by
  rcases who with _ | _ | _ <;> simp [State.operationDone]
@[simp] theorem State.operationDone_portP (s : State) (who : Option Issuer) : (s.operationDone who).portP = s.portP := by
  rcases who with _ | _ | _ <;> simp [State.operationDone]
@[simp] theorem State.operationDone_trace (s : State) (who : Option Issuer) : (s.operationDone who).trace = s.trace := by
  rcases who with _ | _ | _ <;> simp [State.operationDone]
@[simp] theorem State.operationDone_panel (s : State) (who : Option Issuer) : (s.operationDone who).panel = s.panel := by
  rcases who with _ | _ | _ <;> simp [State.operationDone]
@[simp] theorem State.operationDone_turns (s : State) (who : Option Issuer) : (s.operationDone who).turns = s.turns := by
  rcases who with _ | _ | _ <;> simp [State.operationDone]

@[simp] theorem State.perform_cfg (s : State) (q : QItem) : (s.perform q).cfg = s.cfg := by
  simp [State.perform]
@[simp] theorem State.perform_busy (s : State) (q : QItem) : (s.perform q).busy = s.busy := by
  simp [State.perform]
@[simp] theorem State.perform_p2c (s : State) (q : QItem) : (s.perform q).p2c = s.p2c := by
  simp [State.perform]
@[simp] theorem State.perform_c2p (s : State) (q : QItem) : (s.perform q).c2p = s.c2p := by
  simp [State.perform]
@[simp] theorem State.perform_palLocked (s : State) (q : QItem) : (s.perform q).palLocked = s.palLocked := by
  simp [State.perform]
@[simp] theorem State.perform_fault (s : State) (q : QItem) : (s.perform q).fault = s.fault := by
  simp [State.perform]
@[simp] theorem State.perform_dispatchEn (s : State) (q : QItem) : (s.perform q).dispatchEn = s.dispatchEn := by
  simp [State.perform]
@[simp] theorem State.perform_initDone (s : State) (q : QItem) : (s.perform q).initDone = (s.initDone || q.endsInit) := by
  simp [State.perform]
@[simp] theorem State.perform_streamOpen (s : State) (q : QItem) : (s.perform q).streamOpen = s.streamOpen := by
  simp [State.perform]
@[simp] theorem State.perform_opQueue (s : State) (q : QItem) : (s.perform q).opQueue = s.opQueue := by
  simp [State.perform]
@[simp] theorem State.perform_winCol (s : State) (q : QItem) : (s.perform q).winCol = s.winCol := by
  simp [State.perform]
@[simp] theorem State.perform_winRow (s : State) (q : QItem) : (s.perform q).winRow = s.winRow := by
  simp [State.perform]
@[simp] theorem State.perform_fillColor (s : State) (q : QItem) : (s.perform q).fillColor = s.fillColor := by
  simp [State.perform]
@[simp] theorem State.perform_fillXY (s : State) (q : QItem) : (s.perform q).fillXY = s.fillXY := by
  simp [State.perform]
@[simp] theorem State.perform_fillWH (s : State) (q : QItem) : (s.perform q).fillWH = s.fillWH := by
  simp [State.perform]
@[simp] theorem State.perform_bl (s : State) (q : QItem) : (s.perform q).bl = s.bl := by
  simp [State.perform]
@[simp] theorem State.perform_linebuf (s : State) (q : QItem) : (s.perform q).linebuf = s.linebuf := by
  simp [State.perform]
@[simp] theorem State.perform_palette (s : State) (q : QItem) : (s.perform q).palette = s.palette := by
  simp [State.perform]
@[simp] theorem State.perform_pins (s : State) (q : QItem) : (s.perform q).pins = s.pins.afterItem q := by
  simp [State.perform]
@[simp] theorem State.perform_portP (s : State) (q : QItem) : (s.perform q).portP = s.portP := by
  simp [State.perform]
@[simp] theorem State.perform_trace (s : State) (q : QItem) : (s.perform q).trace = s.trace ++ [q.ev] := by
  simp [State.perform]
@[simp] theorem State.perform_panel (s : State) (q : QItem) : (s.perform q).panel = s.panel := by
  simp [State.perform]
@[simp] theorem State.perform_turns (s : State) (q : QItem) : (s.perform q).turns = s.turns := by
  simp [State.perform]

/-! ### Faulted -/

@[simp] theorem State.complete_faulted (s : State) (pid : PortId) (ans : Option Word) :
    (s.complete pid ans).faulted = s.faulted := by cases pid <;> rfl
@[simp] theorem State.holdPort_faulted (s : State) (pid : PortId) (h : Hold) :
    (s.holdPort pid h).faulted = s.faulted := by cases pid <;> rfl
@[simp] theorem State.release_faulted (s : State) (pid : PortId) :
    (s.release pid).faulted = s.faulted := by cases pid <;> rfl
@[simp] theorem State.setPort_faulted (s : State) (pid : PortId) (q : Port) :
    (s.setPort pid q).faulted = s.faulted := by cases pid <;> rfl
@[simp] theorem State.enqueue_faulted (s : State) (q : List QItem) :
    (s.enqueue q).faulted = s.faulted := rfl
@[simp] theorem State.stageWindow_faulted (s : State) (cs ce rs re : Half) :
    (s.stageWindow cs ce rs re).faulted = s.faulted := rfl
@[simp] theorem State.dispatcherDone_faulted (s : State) : s.dispatcherDone.faulted = s.faulted := by
  simp [State.faulted]
@[simp] theorem State.blockReset_faulted (s : State) : s.blockReset.faulted = false := rfl

/-- No code that is raised is 0, so a fault is always seen as one. -/
theorem FaultCode.byte_ne_zero (c : FaultCode) : c.byte ≠ 0#8 := by cases c <;> decide

/-- Once a fault is raised the block is faulted. -/
@[simp] theorem State.raiseFault_faulted (s : State) (t : Trap) (port disp : Bool) :
    (s.raiseFault t port disp).faulted = true := by
  by_cases h : s.fault.code = 0#8
  · simp [State.raiseFault, State.faulted, h, FaultCode.byte_ne_zero]
  · simp [State.raiseFault, State.faulted, h]

/-- The first fault is recorded (60_exceptions.md R311, R313). -/
theorem State.raiseFault_fault (s : State) (t : Trap) (port disp : Bool) :
    (s.raiseFault t port disp).fault =
      if s.faulted then s.fault
      else { code := t.code.byte, port := port, disp := disp, offset := t.off } := rfl

@[simp] theorem Port.dropHeld_hold (q : Port) : q.dropHeld.hold = none := by
  unfold Port.dropHeld; split <;> simp_all

@[simp] theorem Port.dropHeld_reqs (q : Port) : q.dropHeld.reqs = q.reqs := by
  unfold Port.dropHeld; split <;> rfl

theorem Port.dropHeld_of_none {q : Port} (h : q.hold = none) : q.dropHeld = q := by
  unfold Port.dropHeld; split <;> simp_all

end Sys2Proof.Machine
end

