-- ==== Sys2Proof/Laws/Access.lean ====
section
/-! SUPPORT. The shared access operation: one equation for each thing it can do. -/

namespace Sys2Proof.Machine

/-- A port whose access is held accepts no other (10_state.md R37). -/
theorem State.access_of_held {s : State} {pid : PortId} {isRead : Bool} {i : Instr}
    {body : State → Effect} (h : (s.port pid).hold.isSome = true) :
    s.access pid isRead i body = s := by simp [State.access, h]

/-- While the block is faulted (43_busy_status.md R277). -/
theorem State.access_of_faulted {s : State} {pid : PortId} {isRead : Bool} {i : Instr}
    {body : State → Effect} (h : (s.port pid).hold = none) (hf : s.faulted = true) :
    s.access pid isRead i body = s.complete pid (if isRead then some 0 else none) := by
  simp [State.access, h, hf]

/-- The access completes at once. -/
theorem State.access_of_done {s s' : State} {pid : PortId} {isRead : Bool} {i : Instr}
    {body : State → Effect} {v : Word} (h : (s.port pid).hold = none) (hf : s.faulted = false)
    (hb : body s = .done s' v) :
    s.access pid isRead i body = s'.complete pid (if isRead then some v else none) := by
  simp [State.access, h, hf, hb]

/-- The access is held. -/
theorem State.access_of_hold {s : State} {pid : PortId} {isRead : Bool} {i : Instr}
    {body : State → Effect} (h : (s.port pid).hold = none) (hf : s.faulted = false)
    (hb : body s = .hold) :
    s.access pid isRead i body = s.holdPort pid (if isRead then .read i else .write i) := by
  simp [State.access, h, hf, hb]

/-- The access issues an operation that queues events. -/
theorem State.access_of_start {s s' : State} {pid : PortId} {isRead : Bool} {i : Instr}
    {body : State → Effect} {q : QItem} {r : List QItem} (h : (s.port pid).hold = none)
    (hf : s.faulted = false) (hb : body s = .start s' (q :: r)) :
    s.access pid isRead i body = (s'.enqueue (markEnd .port (q :: r))).holdPort pid .link := by
  simp [State.access, h, hf, hb]

/-- A check fails. -/
theorem State.access_of_trap {s : State} {pid : PortId} {isRead : Bool} {i : Instr}
    {body : State → Effect} {t : Trap} (h : (s.port pid).hold = none) (hf : s.faulted = false)
    (hb : body s = .trap t) :
    s.access pid isRead i body =
      (s.raiseFault t pid.bit false).complete pid (if isRead then some 0 else none) := by
  simp [State.access, h, hf, hb]

/-- Everything the shared access can do: the port is held and nothing happens, or the port is free and
the block is faulted, or the access's own rule decides. -/
theorem State.access_cases (s : State) (pid : PortId) (isRead : Bool) (i : Instr)
    (body : State → Effect) :
    ((s.port pid).hold.isSome = true ∧ s.access pid isRead i body = s) ∨
    ((s.port pid).hold = none ∧ s.faulted = true ∧
      s.access pid isRead i body = s.complete pid (if isRead then some 0 else none)) ∨
    ((s.port pid).hold = none ∧ s.faulted = false ∧
      ((∃ s' v, body s = .done s' v ∧
          s.access pid isRead i body = s'.complete pid (if isRead then some v else none)) ∨
        (body s = .hold ∧
          s.access pid isRead i body = s.holdPort pid (if isRead then .read i else .write i)) ∨
        (∃ s', body s = .start s' [] ∧
          s.access pid isRead i body = s'.complete pid (if isRead then some 0 else none)) ∨
        (∃ s' q r, body s = .start s' (q :: r) ∧
          s.access pid isRead i body = (s'.enqueue (markEnd .port (q :: r))).holdPort pid .link) ∨
        (∃ t, body s = .trap t ∧
          s.access pid isRead i body =
            (s.raiseFault t pid.bit false).complete pid (if isRead then some 0 else none)))) := by
  cases h : (s.port pid).hold with
  | some x => exact .inl ⟨rfl, State.access_of_held (by simp [h])⟩
  | none =>
    cases hf : s.faulted with
    | true => exact .inr (.inl ⟨rfl, rfl, State.access_of_faulted h hf⟩)
    | false =>
      refine .inr (.inr ⟨rfl, rfl, ?_⟩)
      cases hb : body s with
      | done s' v => exact .inl ⟨s', v, rfl, State.access_of_done h hf hb⟩
      | hold => exact .inr (.inl ⟨rfl, State.access_of_hold h hf hb⟩)
      | start s' q =>
        cases q with
        | nil => exact .inr (.inr (.inl ⟨s', rfl, by simp [State.access, h, hf, hb]⟩))
        | cons q r =>
          exact .inr (.inr (.inr (.inl ⟨s', q, r, rfl, State.access_of_start h hf hb⟩)))
      | trap t => exact .inr (.inr (.inr (.inr ⟨t, rfl, State.access_of_trap h hf hb⟩)))

/-! ### The guards -/

theorem ownerGuard_of_owned {s : State} {off : Half} {body : State → Effect}
    (h : s.dispatchEn = false) : ownerGuard off body s = body s := by simp [ownerGuard, h]

theorem ownerGuard_of_dispatcher {s : State} {off : Half} {body : State → Effect}
    (h : s.dispatchEn = true) : ownerGuard off body s = .trap ⟨.ownerViolation, off⟩ := by
  simp [ownerGuard, h]

theorem streamGuard_of_closed {s : State} {off : Half} {body : State → Effect}
    (h : s.streamOpen = false) : streamGuard off body s = body s := by simp [streamGuard, h]

theorem streamGuard_of_open {s : State} {off : Half} {body : State → Effect}
    (h : s.streamOpen = true) : streamGuard off body s = .trap ⟨.streamOpen, off⟩ := by
  simp [streamGuard, h]

/-! ### The end of an operation -/

/-- Marking the end changes no event. -/
@[simp] theorem markEnd_ev (who : Issuer) (q : List QItem) :
    (markEnd who q).map (·.ev) = q.map (·.ev) := by
  induction q with
  | nil => rfl
  | cons a r ih => cases r with
    | nil => rfl
    | cons b r => simpa [markEnd] using ih

@[simp] theorem markEnd_length (who : Issuer) (q : List QItem) :
    (markEnd who q).length = q.length := by
  rw [← List.length_map (f := (·.ev)), markEnd_ev, List.length_map]

/-- The last entry, and only it, ends the operation. -/
theorem markEnd_append (who : Issuer) (q : List QItem) (last : QItem) :
    markEnd who (q ++ [last]) = q ++ [{ last with ends := some who }] := by
  induction q with
  | nil => rfl
  | cons a r ih => cases r with
    | nil => rfl
    | cons b r => simpa [markEnd] using ih

end Sys2Proof.Machine
end

