-- ==== Sys2Proof/Laws/Decode.lean ====
section
/-! SUPPORT. The encoded words as numbers, and the fields a decoder reads from a number. The bit lists
of the encoder agree with the spec's sums (30_encoding.md R100, R103, R110). -/

namespace Sys2Proof

/-- A concatenation as a number. -/
theorem append_toNat {n m : Nat} (x : BitVec n) (y : BitVec m) :
    (x ++ y).toNat = x.toNat * 2 ^ m + y.toNat := by
  rw [BitVec.toNat_append, Nat.shiftLeft_eq, Nat.mul_comm, ← Nat.two_pow_add_eq_or_of_lt y.isLt]

/-- A field as a number. -/
theorem field_toNat {n : Nat} (x : BitVec n) (start len : Nat) :
    (x.extractLsb' start len).toNat = x.toNat / 2 ^ start % 2 ^ len := by
  rw [BitVec.extractLsb'_toNat, Nat.shiftRight_eq_div_pow]

/-- A bit as a number. -/
theorem bit_eq {n : Nat} (x : BitVec n) (k : Nat) : x.getLsbD k = decide (x.toNat / 2 ^ k % 2 = 1) := by
  rw [BitVec.getLsbD, Nat.testBit_eq_decide_div_mod_eq]

/-- 0x0100 + 4k (R110). -/
theorem paletteOffset_toNat (k : BitVec 4) : (paletteOffset k).toNat = 0x0100 + 4 * k.toNat := by
  have h : (paletteOffset k).toNat = ((0x004#10 ++ k) ++ 0#2 : BitVec (10 + 4 + 2)).toNat := rfl
  rw [h, append_toNat, append_toNat]
  simp; omega

/-- 0x1000 + 4i (R110). -/
theorem linebufOffset_toNat (i : BitVec 10) : (linebufOffset i).toNat = 0x1000 + 4 * i.toNat := by
  have h : (linebufOffset i).toNat = ((0x1#4 ++ i) ++ 0#2 : BitVec (4 + 10 + 2)).toNat := rfl
  rw [h, append_toNat, append_toNat]
  simp; omega

/-- PORT in bit 17, WR in bit 16, OFF below (R100). -/
theorem descriptor_toNat (port wr : Bool) (off : Half) :
    (descriptor port wr off).toNat = port.toNat * 131072 + wr.toNat * 65536 + off.toNat := by
  have h : (descriptor port wr off).toNat =
      ((BitVec.ofBool port ++ BitVec.ofBool wr) ++ off : BitVec (1 + 1 + 16)).toNat := rfl
  rw [h, append_toNat, append_toNat]
  simp; omega

/-- 0x01000000 + row (R103). -/
theorem drawLineWord_toNat (row : Half) : (drawLineWord row).toNat = 0x01000000 + row.toNat := by
  have h : (drawLineWord row).toNat = (0x0100#16 ++ row : BitVec (16 + 16)).toNat := rfl
  rw [h, append_toNat]; simp

/-- 0x03000000 + value (R103). -/
theorem setPixelWord_toNat (c : Half) : (setPixelWord c).toNat = 0x03000000 + c.toNat := by
  have h : (setPixelWord c).toNat = (0x0300#16 ++ c : BitVec (16 + 16)).toNat := rfl
  rw [h, append_toNat]; simp

/-- The fields of a descriptor. -/
theorem descriptor_off (port wr : Bool) (off : Half) :
    (descriptor port wr off).extractLsb' 0 16 = off := by
  apply BitVec.eq_of_toNat_eq
  rw [field_toNat, descriptor_toNat]
  have := off.isLt
  cases port <;> cases wr <;> simp <;> omega

theorem descriptor_wr (port wr : Bool) (off : Half) : (descriptor port wr off).getLsbD 16 = wr := by
  rw [bit_eq, descriptor_toNat]
  have := off.isLt
  cases port <;> cases wr <;> simp <;> omega

theorem descriptor_port (port wr : Bool) (off : Half) :
    (descriptor port wr off).getLsbD 17 = port := by
  rw [bit_eq, descriptor_toNat]
  have := off.isLt
  cases port <;> cases wr <;> simp <;> omega

/-- Decoding an encoded descriptor is decoding its offset. -/
theorem decodeDescriptor_descriptor (lineW width : Nat) (port wr : Bool) (off : Half) (D : Word) :
    decodeDescriptor lineW width (descriptor port wr off) D = decodeOffset lineW width port wr off D := by
  simp only [decodeDescriptor, descriptor_off, descriptor_wr, descriptor_port]

/-- The fields of a palette offset (R101 step 3). -/
theorem paletteOffset_fields (k : BitVec 4) :
    (paletteOffset k).extractLsb' 0 2 = 0#2 ∧ (paletteOffset k).extractLsb' 12 4 ≠ 0x1#4 ∧
    (paletteOffset k).extractLsb' 6 10 = 0x004#10 ∧ (paletteOffset k).extractLsb' 2 4 = k := by
  revert k; decide

/-- The fields of a line buffer offset (R101 step 2). -/
theorem linebufOffset_fields (i : BitVec 10) :
    (linebufOffset i).extractLsb' 0 2 = 0#2 ∧ (linebufOffset i).extractLsb' 12 4 = 0x1#4 ∧
    (linebufOffset i).extractLsb' 2 10 = i := by
  have hi := i.isLt
  refine ⟨?_, ?_, ?_⟩ <;> apply BitVec.eq_of_toNat_eq <;> rw [field_toNat, linebufOffset_toNat] <;>
    simp <;> omega

/-- The named command words decode to their commands (R103). -/
theorem decodeCommand_drawLineWord (row : Half) : decodeCommand (drawLineWord row) = .drawLine row := by
  have hr := row.isLt
  have h1 : drawLineWord row ≠ 0#32 := by
    intro h; have := congrArg BitVec.toNat h; rw [drawLineWord_toNat] at this; simp at this
  have h2 : (drawLineWord row).extractLsb' 16 16 = 0x0100#16 := by
    apply BitVec.eq_of_toNat_eq; rw [field_toNat, drawLineWord_toNat]; simp; omega
  have h3 : (drawLineWord row).extractLsb' 0 16 = row := by
    apply BitVec.eq_of_toNat_eq; rw [field_toNat, drawLineWord_toNat]; simp; omega
  rw [decodeCommand, if_neg h1, if_pos h2, h3]

theorem decodeCommand_setIdleWord (invert idle : Bool) :
    decodeCommand (setIdleWord invert idle) = .setIdle invert idle := by
  cases invert <;> cases idle <;> decide

theorem decodeCommand_setPixelWord (c : Half) : decodeCommand (setPixelWord c) = .setPixel c := by
  have hr := c.isLt
  have h1 : setPixelWord c ≠ 0#32 := by
    intro h; have := congrArg BitVec.toNat h; rw [setPixelWord_toNat] at this; simp at this
  have h2 : (setPixelWord c).extractLsb' 16 16 ≠ 0x0100#16 := by
    intro h; have := congrArg BitVec.toNat h; rw [field_toNat, setPixelWord_toNat] at this
    simp at this; omega
  have h3 : (setPixelWord c).extractLsb' 2 30 ≠ 0x00800000#30 := by
    intro h; have := congrArg BitVec.toNat h; rw [field_toNat, setPixelWord_toNat] at this
    simp at this; omega
  have h4 : (setPixelWord c).extractLsb' 16 16 = 0x0300#16 := by
    apply BitVec.eq_of_toNat_eq; rw [field_toNat, setPixelWord_toNat]; simp; omega
  have h5 : (setPixelWord c).extractLsb' 0 16 = c := by
    apply BitVec.eq_of_toNat_eq; rw [field_toNat, setPixelWord_toNat]; simp; omega
  rw [decodeCommand, if_neg h1, if_neg h2, if_neg h3, if_pos h4, h5]

end Sys2Proof
end

