-- ==== Sys2Proof/Laws/Step.lean ====
section
/-! SUPPORT. What a step can do, said once. -/

namespace Sys2Proof.Machine

/-- Every operation completes, is held, is queued or raises a fault of the block: its outcome is always
a next state. -/
theorem exec_next (i : Instr) (s : State) : ∃ t, exec i s = .next t := by
  cases i <;> exact ⟨_, rfl⟩

/-- The turn of a host: it issues nothing, or an access that decodes and runs, or one that is refused. -/
theorem stepHost_cases (pid : PortId) (s : State) :
    (s.nextAccess pid = none ∧ stepHost pid s = .next s) ∨
    ∃ a s', s.nextAccess pid = some (a, s') ∧
      ((∃ i, s.decodeAccess pid a = .ok i ∧ stepHost pid s = exec i s') ∨
        ∃ e, s.decodeAccess pid a = .error e ∧ stepHost pid s = .next (s'.refuseAccess pid a e)) := by
  unfold stepHost
  cases h : s.nextAccess pid with
  | none => exact .inl ⟨rfl, rfl⟩
  | some x =>
    obtain ⟨a, s'⟩ := x
    refine .inr ⟨a, s', rfl, ?_⟩
    cases hd : s.decodeAccess pid a with
    | ok i => exact .inl ⟨i, rfl, by simp [hd]⟩
    | error e => exact .inr ⟨e, rfl, by simp [hd]⟩

/-- The turn of the dispatcher: no step, a command word it pops, or a step of EXEC(w, k). -/
theorem stepDispatcher_cases (s : State) :
    stepDispatcher s = .next s ∨
    (s.faulted = false ∧ s.phase = .waitCmd ∧
      ∃ w, s.p2c = some w ∧ stepDispatcher s = exec (decodeCommand w) s) ∨
    (s.faulted = false ∧ ∃ w k issued, s.phase = .exec w k issued ∧
      stepDispatcher s = .next (s.dispatcherExec w k issued)) := by
  unfold stepDispatcher
  cases hf : s.faulted with
  | true => exact .inl rfl
  | false =>
    cases hp : s.phase with
    | off => exact .inl rfl
    | waitCmd =>
      cases hc : s.p2c with
      | none => exact .inl rfl
      | some w => exact .inr (.inl ⟨rfl, rfl, w, rfl, by simp⟩)
    | exec w k issued => exact .inr (.inr ⟨rfl, w, k, issued, rfl, by simp⟩)

/-- What E performs: nothing while the queue is empty or the block faulted, else the head. -/
theorem State.nextItem_cases (s : State) :
    (s.nextItem = none ∧ (s.faulted = true ∨ s.opQueue = [])) ∨
    ∃ q rest, s.faulted = false ∧ s.opQueue = q :: rest ∧
      s.nextItem = some (q, { s with opQueue := rest }) := by
  unfold State.nextItem
  cases hf : s.faulted with
  | true => exact .inl ⟨rfl, .inl rfl⟩
  | false =>
    cases hq : s.opQueue with
    | nil => exact .inl ⟨by simp, .inr rfl⟩
    | cons q rest => exact .inr ⟨q, rest, rfl, rfl, by simp⟩

/-- The turn of the engine: no step, a command byte that the panel takes, one it does not know, or
another event. -/
theorem stepEngine_cases (s : State) :
    (s.nextItem = none ∧ stepEngine s = .next s) ∨
    ∃ q s', s.nextItem = some (q, s') ∧
      ((∃ b i, q.ev = .cmd b ∧ decodeWire b = .ok i ∧ stepEngine s = exec i (s'.perform q)) ∨
        (∃ b e, q.ev = .cmd b ∧ decodeWire b = .error e ∧
          stepEngine s = .next { s'.perform q with panel := s.panel.unknownCommand }) ∨
        ((∀ b, q.ev ≠ .cmd b) ∧
          stepEngine s = .next { s'.perform q with panel := s.panel.lineEvent s.cfg q.ev })) := by
  unfold stepEngine
  cases h : s.nextItem with
  | none => exact .inl ⟨rfl, rfl⟩
  | some x =>
    obtain ⟨q, s'⟩ := x
    refine .inr ⟨q, s', rfl, ?_⟩
    cases hq : q.ev with
    | cmd b =>
      cases hd : decodeWire b with
      | ok i => exact .inl ⟨b, i, rfl, hd, by simp [hq, hd]⟩
      | error e => exact .inr (.inl ⟨b, e, rfl, hd, by simp [hq, hd]⟩)
    | dat b => exact .inr (.inr ⟨(by simp), (by simp [hq])⟩)
    | cs l => exact .inr (.inr ⟨(by simp), (by simp [hq])⟩)
    | rst l => exact .inr (.inr ⟨(by simp), (by simp [hq])⟩)
    | bl l => exact .inr (.inr ⟨(by simp), (by simp [hq])⟩)
    | wait n => exact .inr (.inr ⟨(by simp), (by simp [hq])⟩)

/-- A step: a held access whose condition is true, or no turn left, or the turn of the first of
`turns`. -/
theorem step_cases (s : State) :
    (∃ pid i, s.readyHeld = some (pid, i) ∧ step s = exec i (s.release pid)) ∨
    (s.readyHeld = none ∧ s.turns = [] ∧ step s = .next s) ∨
    ∃ turn rest, s.readyHeld = none ∧ s.turns = turn :: rest ∧
      step s = stepTurn turn { s with turns := rest } := by
  unfold step
  cases h : s.readyHeld with
  | some x => obtain ⟨pid, i⟩ := x; exact .inl ⟨pid, i, rfl, rfl⟩
  | none =>
    cases ht : s.turns with
    | nil => exact .inr (.inl ⟨rfl, rfl, rfl⟩)
    | cons turn rest => exact .inr (.inr ⟨turn, rest, rfl, rfl, rfl⟩)

/-- A held access that is ready is held, on the port it is reported for. -/
theorem State.readyHeld_held {s : State} {pid : PortId} {i : Instr}
    (h : s.readyHeld = some (pid, i)) :
    holdReady s i = true ∧
      ((s.port pid).hold = some (.read i) ∨ (s.port pid).hold = some (.write i)) := by
  have key : ∀ pid', s.readyAt pid' = some i → holdReady s i = true ∧
      ((s.port pid').hold = some (.read i) ∨ (s.port pid').hold = some (.write i)) := by
    intro pid' h'
    unfold State.readyAt at h'
    split at h'
    · split at h' <;> simp_all
    · split at h' <;> simp_all
    · cases h'
    · cases h'
  unfold State.readyHeld at h
  cases hp : s.readyAt .p with
  | some j => simp [hp] at h; obtain ⟨rfl, rfl⟩ := h; exact key _ hp
  | none =>
    cases hc : s.readyAt .c with
    | some j => simp [hp, hc] at h; obtain ⟨rfl, rfl⟩ := h; exact key _ hc
    | none => simp [hp, hc] at h

/-- A port on which no access is held, and one that holds for the engine, have nothing ready. -/
theorem State.readyHeld_none {s : State}
    (hp : s.portP.hold = none ∨ s.portP.hold = some .link)
    (hc : s.portC.hold = none ∨ s.portC.hold = some .link) : s.readyHeld = none := by
  rcases hp with hp | hp <;> rcases hc with hc | hc <;> simp [State.readyHeld, State.readyAt, hp, hc]

/-- Every turn answers with a next state. -/
theorem stepTurn_next (turn : Turn) (s : State) : ∃ t, stepTurn turn s = .next t := by
  have host : ∀ pid, ∃ t, stepHost pid s = .next t := by
    intro pid
    rcases stepHost_cases pid s with ⟨-, h⟩ | ⟨a, s', -, ⟨i, -, h⟩ | ⟨e, -, h⟩⟩
    · exact ⟨_, h⟩
    · rw [h]; exact exec_next i s'
    · exact ⟨_, h⟩
  cases turn with
  | p => exact host .p
  | c => exact host .c
  | d =>
    rcases stepDispatcher_cases s with h | ⟨-, -, w, -, h⟩ | ⟨-, w, k, issued, -, h⟩
    · exact ⟨_, h⟩
    · show ∃ t, stepDispatcher s = .next t; rw [h]; exact exec_next _ s
    · exact ⟨_, h⟩
  | e =>
    show ∃ t, stepEngine s = .next t
    rcases stepEngine_cases s with ⟨-, h⟩ | ⟨q, s', -, ⟨b, i, -, -, h⟩ | ⟨b, e, -, -, h⟩ | ⟨-, h⟩⟩
    · exact ⟨_, h⟩
    · rw [h]; exact exec_next _ _
    · exact ⟨_, h⟩
    · exact ⟨_, h⟩
  | reset => exact ⟨_, rfl⟩

/-- Every step answers with a next state: the machine never stops. -/
theorem step_next (s : State) : ∃ t, step s = .next t := by
  rcases step_cases s with ⟨pid, i, -, h⟩ | ⟨-, -, h⟩ | ⟨turn, rest, -, -, h⟩
  · rw [h]; exact exec_next i _
  · exact ⟨_, h⟩
  · rw [h]; exact stepTurn_next turn _

end Sys2Proof.Machine
end

