-- ==== Sys2Proof/Laws/Issue.lean ====
section
/-! SUPPORT. What the issue of a link operation and a failed check by agent C come to, in the terms of the
statements; and the fields of the event lists of 40_panellink.md R142 to R152. -/

namespace Sys2Proof.Machine

/-! ### Event lists -/

@[simp] theorem frame_ends (c : Byte) (ps : List Byte) : (frame c ps).all (·.ends = none) = true := by
  simp [frame, plain]

@[simp] theorem frame_endsInit (c : Byte) (ps : List Byte) :
    (frame c ps).all (·.endsInit = false) = true := by
  simp [frame, plain]

@[simp] theorem windowEvents_ends (cs ce rs re : Half) :
    (windowEvents cs ce rs re).all (·.ends = none) = true := rfl

@[simp] theorem windowEvents_endsInit (cs ce rs re : Half) :
    (windowEvents cs ce rs re).all (·.endsInit = false) = true := rfl

@[simp] theorem windowEvents_marks (cs ce rs re : Half) :
    (windowEvents cs ce rs re).map (fun x => (x.ev, x.dataMode)) =
      (windowWire cs ce rs re).map (·, false) := rfl

@[simp] theorem streamEvents_ends (colors : List Half) :
    (streamEvents colors).all (·.ends = none) = true := by
  simp [streamEvents, half, plain, streamOpenItem, streamCloseItem]

@[simp] theorem streamEvents_endsInit (colors : List Half) :
    (streamEvents colors).all (·.endsInit = false) = true := by
  simp [streamEvents, half, plain, streamOpenItem, streamCloseItem]

/-- Only the event that opens the stream frame drives DC (R158). -/
@[simp] theorem streamEvents_marks (colors : List Half) :
    (streamEvents colors).map (fun x => (x.ev, x.dataMode)) = streamMarks (streamWire colors) := by
  simp [streamEvents, streamWire, streamMarks, half, plain, streamOpenItem, streamCloseItem,
    List.map_flatMap]

/-! ### Agent C's access to the link engine -/

/-- An access of C whose rule starts an operation with the entries `q ++ [last]` is issued with their
events. -/
theorem issuesC_of_start {i : Instr} {s s' : State} {body : State → Effect} {q : List QItem}
    {last : QItem} {evs stream : List WireEvent}
    (hexec : exec i s = .next (s.access .c false i body)) (hready : s.ReadyC)
    (hbody : body s = .start s' (q ++ [last]))
    (hport : s'.portC = s.portC) (hqueue : s'.opQueue = s.opQueue)
    (hends : ∀ x ∈ q, x.ends = none ∧ x.endsInit = false)
    (hmarks : (q ++ [last]).map (fun x => (x.ev, x.dataMode)) =
      evs.map (·, false) ++ streamMarks stream) :
    IssuesC i s s' evs stream last.endsInit := by
  refine ⟨q, { last with ends := some .port }, by simpa using hmarks, rfl, rfl, hends, ?_⟩
  obtain ⟨q0, r, hqr⟩ : ∃ q0 r, q ++ [last] = q0 :: r := by cases q <;> simp
  rw [hqr] at hbody
  rw [hexec, State.access_of_start (by simpa [State.port] using hready.1) hready.2 hbody, ← hqr,
    markEnd_append]
  simp [State.enqueue, State.holdPort, State.setPort, State.port, hport, hqueue]

/-- An access of C whose rule fails a check faults with that check's code and offset. -/
theorem raisesC_of_trap {i : Instr} {s : State} {body : State → Effect} {t : Trap} {isRead : Bool}
    (hexec : exec i s = .next (s.access .c isRead i body)) (hready : s.ReadyC)
    (hbody : body s = .trap t) :
    RaisesC i s t.code.byte t.off (if isRead then some 0 else none) := by
  obtain ⟨hhold, hfault⟩ := hready
  unfold RaisesC
  rw [hexec, State.access_of_trap (by simpa [State.port] using hhold) hfault hbody]
  simp [State.raiseFault, State.complete, State.setPort, State.port, PortId.bit, hfault,
    Port.dropHeld, hhold]

end Sys2Proof.Machine
end

