-- ==== Sys2Proof/Laws/Memory.lean ====
section
/-! SUPPORT. The sparse stores: a read after a write, and the canonical form. -/

namespace Sys2Proof.Machine

@[simp] theorem Memory.read_nil {α : Type} (a : Nat) : Memory.read ([] : Memory α) a = none := rfl

@[simp] theorem Memory.wf_nil {α : Type} : Memory.wf ([] : Memory α) = true := rfl

/-- A read after a write, at any index. -/
theorem Memory.read_write {α : Type} (m : Memory α) (a b : Nat) (v : α) :
    (m.write a v).read b = if a = b then some v else m.read b := by
  induction m with
  | nil => simp [Memory.write, Memory.read]
  | cons e m ih =>
    obtain ⟨k, w⟩ := e
    unfold Memory.write
    split
    · simp [Memory.read]
    · split
      · subst_vars; simp [Memory.read]; split <;> simp_all
      · simp only [Memory.read, ih]
        split <;> split <;> simp_all

/-- The index written holds the value. -/
@[simp] theorem Memory.read_write_same {α : Type} (m : Memory α) (a : Nat) (v : α) :
    (m.write a v).read a = some v := by simp [Memory.read_write]

/-- Every other index is left alone. -/
theorem Memory.read_write_other {α : Type} (m : Memory α) {a b : Nat} (v : α) (h : a ≠ b) :
    (m.write a v).read b = m.read b := by simp [Memory.read_write, h]

/-- A write keeps a list sorted from a bound that its index respects. -/
theorem Memory.sortedFrom_write {α : Type} (m : Memory α) (lo a : Nat) (v : α) (h : lo ≤ a)
    (hm : Memory.sortedFrom lo m = true) : Memory.sortedFrom lo (m.write a v) = true := by
  induction m generalizing lo with
  | nil => simpa [Memory.write, Memory.sortedFrom] using h
  | cons e m ih =>
    obtain ⟨k, w⟩ := e
    simp only [Memory.sortedFrom, Bool.and_eq_true, decide_eq_true_eq] at hm
    unfold Memory.write
    split
    · simp only [Memory.sortedFrom, Bool.and_eq_true, decide_eq_true_eq]
      exact ⟨h, by omega, hm.2⟩
    · split
      · subst_vars
        simp only [Memory.sortedFrom, Bool.and_eq_true, decide_eq_true_eq]
        exact ⟨h, hm.2⟩
      · simp only [Memory.sortedFrom, Bool.and_eq_true, decide_eq_true_eq]
        exact ⟨hm.1, ih (k + 1) (by omega) hm.2⟩

/-- Every write keeps the canonical form. -/
theorem Memory.wf_write {α : Type} (m : Memory α) (a : Nat) (v : α) (hm : m.wf = true) :
    (m.write a v).wf = true :=
  Memory.sortedFrom_write m 0 a v (Nat.zero_le a) hm

/-- A list sorted from a bound lists nothing below it. -/
theorem Memory.read_none_of_lt {α : Type} (m : Memory α) (lo a : Nat)
    (hm : Memory.sortedFrom lo m = true) (h : a < lo) : m.read a = none := by
  induction m generalizing lo with
  | nil => rfl
  | cons e m ih =>
    obtain ⟨k, w⟩ := e
    simp only [Memory.sortedFrom, Bool.and_eq_true, decide_eq_true_eq] at hm
    have hk : ¬ k = a := by omega
    simp only [Memory.read, hk, if_false]
    exact ih (k + 1) hm.2 (by omega)

/-- The canonical form makes equal stores equal data: two that read alike are the same list. -/
theorem Memory.ext_of_wf {α : Type} {m m' : Memory α} {lo : Nat}
    (hm : Memory.sortedFrom lo m = true) (hm' : Memory.sortedFrom lo m' = true)
    (h : ∀ a, m.read a = m'.read a) : m = m' := by
  induction m generalizing m' lo with
  | nil =>
    cases m' with
    | nil => rfl
    | cons e m' => obtain ⟨k, w⟩ := e; have := h k; simp [Memory.read] at this
  | cons e m ih =>
    obtain ⟨k, w⟩ := e
    cases m' with
    | nil => have := h k; simp [Memory.read] at this
    | cons e' m' =>
      obtain ⟨k', w'⟩ := e'
      simp only [Memory.sortedFrom, Bool.and_eq_true, decide_eq_true_eq] at hm hm'
      have hkk : k = k' := by
        by_contra hne
        rcases Nat.lt_or_gt_of_ne hne with hlt | hlt
        · have h1 := h k
          rw [Memory.read, if_pos rfl, Memory.read, if_neg (by omega),
            Memory.read_none_of_lt m' (k' + 1) k hm'.2 (by omega)] at h1
          cases h1
        · have h1 := h k'
          rw [Memory.read, if_neg (by omega), Memory.read, if_pos rfl,
            Memory.read_none_of_lt m (k + 1) k' hm.2 (by omega)] at h1
          cases h1
      subst hkk
      have hw : w = w' := by have := h k; simpa [Memory.read] using this
      subst hw
      have htail : m = m' := ih hm.2 hm'.2 (fun a => by
        by_cases ha : k = a
        · subst ha
          rw [Memory.read_none_of_lt m (k + 1) k hm.2 (by omega),
            Memory.read_none_of_lt m' (k + 1) k hm'.2 (by omega)]
        · have := h a; simpa [Memory.read, ha] using this)
      rw [htail]

end Sys2Proof.Machine
end

