-- ==== Sys2Proof/Laws/PerInstr.lean ====
section
/-! SUPPORT. A property of every operation's encoding, one lemma for each constructor: an encoded access
is 32 bits wide and aligned, so no encoded access raises BAD_ACCESS (spec 20_memory.md R74). -/

namespace Sys2Proof.Laws.EncodedForm

/-- The code of an access is a whole, aligned 32-bit word's. -/
def Statement (i : Instr) : Prop :=
  ∀ width A D, encode i = .access width A D → width = 32 ∧ A.extractLsb' 0 2 = 0#2

/-- The low two bits of a descriptor are those of its offset. -/
theorem descriptor_low (port wr : Bool) (off : Half) :
    (descriptor port wr off).extractLsb' 0 2 = off.extractLsb' 0 2 := by
  apply BitVec.eq_of_toNat_eq
  rw [field_toNat, field_toNat, descriptor_toNat]
  simp; omega

/-- A read's code has the form when its offset is aligned. -/
theorem of_readCode {i : Instr} {port : Bool} {off : Half} (h : encode i = readCode port off)
    (ha : off.extractLsb' 0 2 = 0#2) : Statement i := by
  intro width A D e
  rw [h] at e
  injection e with hw hA _
  exact ⟨hw.symm, by rw [← hA, descriptor_low, ha]⟩

/-- A write's code has the form when its offset is aligned. -/
theorem of_writeCode {i : Instr} {port : Bool} {off : Half} {v : Word}
    (h : encode i = writeCode port off v) (ha : off.extractLsb' 0 2 = 0#2) : Statement i := by
  intro width A D e
  rw [h] at e
  injection e with hw hA _
  exact ⟨hw.symm, by rw [← hA, descriptor_low, ha]⟩

/-- A code of another format is no access. -/
theorem of_command {i : Instr} {w : Word} (h : encode i = .command w) : Statement i := by
  intro width A D e; rw [h] at e; cases e

/-- A code of another format is no access. -/
theorem of_wire {i : Instr} {b : Byte} (h : encode i = .wire b) : Statement i := by
  intro width A D e; rw [h] at e; cases e

theorem rPStatus : Statement .rPStatus := of_readCode rfl (by decide)
theorem wPStatus (v : Word) : Statement (.wPStatus v) := of_writeCode rfl (by decide)
theorem rPBusy : Statement .rPBusy := of_readCode rfl (by decide)
theorem wPBusy (v : Word) : Statement (.wPBusy v) := of_writeCode rfl (by decide)
theorem rPMboxTx : Statement .rPMboxTx := of_readCode rfl (by decide)
theorem wPMboxTx (v : Word) : Statement (.wPMboxTx v) := of_writeCode rfl (by decide)
theorem rPMboxRx : Statement .rPMboxRx := of_readCode rfl (by decide)
theorem wPMboxRx (v : Word) : Statement (.wPMboxRx v) := of_writeCode rfl (by decide)
theorem rPFault : Statement .rPFault := of_readCode rfl (by decide)
theorem wPFault (v : Word) : Statement (.wPFault v) := of_writeCode rfl (by decide)
theorem rPPalette (k : BitVec 4) : Statement (.rPPalette k) := of_readCode rfl (paletteOffset_fields k).1
theorem wPPalette (k : BitVec 4) (v : Word) : Statement (.wPPalette k v) := of_writeCode rfl (paletteOffset_fields k).1
theorem rPLinebuf (i : BitVec 10) : Statement (.rPLinebuf i) := of_readCode rfl (linebufOffset_fields i).1
theorem wPLinebuf (i : BitVec 10) (v : Word) : Statement (.wPLinebuf i v) := of_writeCode rfl (linebufOffset_fields i).1
theorem rCStatus : Statement .rCStatus := of_readCode rfl (by decide)
theorem wCStatus (v : Word) : Statement (.wCStatus v) := of_writeCode rfl (by decide)
theorem rCBusyClr : Statement .rCBusyClr := of_readCode rfl (by decide)
theorem wCBusyClr (v : Word) : Statement (.wCBusyClr v) := of_writeCode rfl (by decide)
theorem rCMboxRx : Statement .rCMboxRx := of_readCode rfl (by decide)
theorem wCMboxRx (v : Word) : Statement (.wCMboxRx v) := of_writeCode rfl (by decide)
theorem rCMboxTx : Statement .rCMboxTx := of_readCode rfl (by decide)
theorem wCMboxTx (v : Word) : Statement (.wCMboxTx v) := of_writeCode rfl (by decide)
theorem rCFault : Statement .rCFault := of_readCode rfl (by decide)
theorem wCFault (v : Word) : Statement (.wCFault v) := of_writeCode rfl (by decide)
theorem rCCtrl : Statement .rCCtrl := of_readCode rfl (by decide)
theorem wCCtrl (v : Word) : Statement (.wCCtrl v) := of_writeCode rfl (by decide)
theorem rCInit : Statement .rCInit := of_readCode rfl (by decide)
theorem wCInit (v : Word) : Statement (.wCInit v) := of_writeCode rfl (by decide)
theorem rCWinCol : Statement .rCWinCol := of_readCode rfl (by decide)
theorem wCWinCol (v : Word) : Statement (.wCWinCol v) := of_writeCode rfl (by decide)
theorem rCWinRow : Statement .rCWinRow := of_readCode rfl (by decide)
theorem wCWinRow (v : Word) : Statement (.wCWinRow v) := of_writeCode rfl (by decide)
theorem rCWinApply : Statement .rCWinApply := of_readCode rfl (by decide)
theorem wCWinApply (v : Word) : Statement (.wCWinApply v) := of_writeCode rfl (by decide)
theorem rCSetAddress : Statement .rCSetAddress := of_readCode rfl (by decide)
theorem wCSetAddress (v : Word) : Statement (.wCSetAddress v) := of_writeCode rfl (by decide)
theorem rCStreamBegin : Statement .rCStreamBegin := of_readCode rfl (by decide)
theorem wCStreamBegin (v : Word) : Statement (.wCStreamBegin v) := of_writeCode rfl (by decide)
theorem rCPixel : Statement .rCPixel := of_readCode rfl (by decide)
theorem wCPixel (v : Word) : Statement (.wCPixel v) := of_writeCode rfl (by decide)
theorem rCStreamEnd : Statement .rCStreamEnd := of_readCode rfl (by decide)
theorem wCStreamEnd (v : Word) : Statement (.wCStreamEnd v) := of_writeCode rfl (by decide)
theorem rCFillColor : Statement .rCFillColor := of_readCode rfl (by decide)
theorem wCFillColor (v : Word) : Statement (.wCFillColor v) := of_writeCode rfl (by decide)
theorem rCFillXY : Statement .rCFillXY := of_readCode rfl (by decide)
theorem wCFillXY (v : Word) : Statement (.wCFillXY v) := of_writeCode rfl (by decide)
theorem rCFillWH : Statement .rCFillWH := of_readCode rfl (by decide)
theorem wCFillWH (v : Word) : Statement (.wCFillWH v) := of_writeCode rfl (by decide)
theorem rCFillGo : Statement .rCFillGo := of_readCode rfl (by decide)
theorem wCFillGo (v : Word) : Statement (.wCFillGo v) := of_writeCode rfl (by decide)
theorem rCInvert : Statement .rCInvert := of_readCode rfl (by decide)
theorem wCInvert (v : Word) : Statement (.wCInvert v) := of_writeCode rfl (by decide)
theorem rCPower : Statement .rCPower := of_readCode rfl (by decide)
theorem wCPower (v : Word) : Statement (.wCPower v) := of_writeCode rfl (by decide)
theorem rCBacklight : Statement .rCBacklight := of_readCode rfl (by decide)
theorem wCBacklight (v : Word) : Statement (.wCBacklight v) := of_writeCode rfl (by decide)
theorem rCIdle : Statement .rCIdle := of_readCode rfl (by decide)
theorem wCIdle (v : Word) : Statement (.wCIdle v) := of_writeCode rfl (by decide)
theorem rCDrawLine : Statement .rCDrawLine := of_readCode rfl (by decide)
theorem wCDrawLine (v : Word) : Statement (.wCDrawLine v) := of_writeCode rfl (by decide)
theorem rCPalette (k : BitVec 4) : Statement (.rCPalette k) := of_readCode rfl (paletteOffset_fields k).1
theorem wCPalette (k : BitVec 4) (v : Word) : Statement (.wCPalette k v) := of_writeCode rfl (paletteOffset_fields k).1
theorem rCLinebuf (i : BitVec 10) : Statement (.rCLinebuf i) := of_readCode rfl (linebufOffset_fields i).1
theorem wCLinebuf (i : BitVec 10) (v : Word) : Statement (.wCLinebuf i v) := of_writeCode rfl (linebufOffset_fields i).1
theorem nop : Statement .nop := of_command rfl
theorem drawLine (row : Half) : Statement (.drawLine row) := of_command rfl
theorem setIdle (invert : Bool) (idle : Bool) : Statement (.setIdle invert idle) := of_command rfl
theorem setPixel (color : Half) : Statement (.setPixel color) := of_command rfl
theorem reservedCommand (w : Word) : Statement (.reservedCommand w) := of_command rfl
theorem swreset : Statement .swreset := of_wire rfl
theorem slpin : Statement .slpin := of_wire rfl
theorem slpout : Statement .slpout := of_wire rfl
theorem noron : Statement .noron := of_wire rfl
theorem invoff : Statement .invoff := of_wire rfl
theorem invon : Statement .invon := of_wire rfl
theorem dispoff : Statement .dispoff := of_wire rfl
theorem dispon : Statement .dispon := of_wire rfl
theorem caset : Statement .caset := of_wire rfl
theorem raset : Statement .raset := of_wire rfl
theorem ramwr : Statement .ramwr := of_wire rfl
theorem madctl : Statement .madctl := of_wire rfl
theorem idmoff : Statement .idmoff := of_wire rfl
theorem idmon : Statement .idmon := of_wire rfl
theorem colmod : Statement .colmod := of_wire rfl

end Sys2Proof.Laws.EncodedForm
end

