-- ==== Sys2Proof/Tests/Slice0.lean ====
section
/-! SUPPORT. The model's own tests. Decode tests show every constructor's decoding from a word written
out from the spec's tables. Step tests are one step each, their expected values from 95_test_vectors.md
(V<n>) or from the rule named. Each witness shows a concrete state that meets the hypotheses of one
obligation, at boundary values of its clauses. -/

open Sys2Proof Sys2Proof.Machine

namespace Sys2Proof.Tests

/-! ### Helpers -/

/-- Configuration T of 95_test_vectors.md, from reset. -/
def tiny : State := State.resetWith Config.tiny

/-- A write access. -/
def wr (off : Half) (v : Word) : Access := { width := 32, write := true, off := off, data := v }

/-- A read access. -/
def rd (off : Half) : Access := { width := 32, write := false, off := off, data := 0 }

/-- Host `pid` has the turn, with access `a` to issue. -/
def host (pid : PortId) (a : Access) (s : State) : State :=
  match pid with
  | .p => { s with turns := [.p], portP := { s.portP with reqs := [a] } }
  | .c => { s with turns := [.c], portC := { s.portC with reqs := [a] } }

/-- The next state, if there is one. -/
def out (o : Host.Outcome State Fault Refusal) : Option State :=
  match o with
  | .next s => some s
  | .fault _ => none
  | .refused _ => none

/-- What one access of the P-port answers. -/
def answerP (a : Access) (s : State) : Option (Option Word) :=
  (out (step (host .p a s))).map (·.portP.answer)

/-- What one access of the C-port answers. -/
def answerC (a : Access) (s : State) : Option (Option Word) :=
  (out (step (host .c a s))).map (·.portC.answer)

/-- The fault word after one access. -/
def faultWord (pid : PortId) (a : Access) (s : State) : Option Word :=
  (out (step (host pid a s))).map (·.fault.word)

/-- The events queued after one access of the C-port. -/
def queued (a : Access) (s : State) : Option (List WireEvent) :=
  (out (step (host .c a s))).map fun t => t.opQueue.map (·.ev)

/-- Palette S of 95_test_vectors.md. -/
def paletteS : Memory Half := [(0, 0xFFFF), (1, 0xAD55), (2, 0x52AA), (3, 0x0000)]

/-- The common setup of V25 to V31: palette S, LINEBUF 0, 1, 2, 3, and BUSY. -/
def drawing : State :=
  { tiny with palette := paletteS, linebuf := [(0, 0), (1, 1), (2, 2), (3, 3)], busy := true }

/-- The dispatcher waits. -/
def waiting : State := { tiny with dispatchEn := true, phase := .waitCmd }

/-- A panel that has been initialized, in front of configuration T. -/
def panelRec : PanelRec :=
  { sleep := false, displayOn := true, invert := false, idle := false, normal := true
    colmod := 0x55, madctl := 0x00, xs := 0, xe := 7, ys := 0, ye := 5, cx := 0, cy := 0
    ctx := .none, gram := [] }

/-- A block in front of that panel. -/
def shown : State := { tiny with panel := { inReset := false, bl := false, known := some panelRec } }

/-! ### Well-formedness -/

theorem test_wf_linebuf_index :
    Instr.wellFormed 160 (.rPLinebuf 159) = true ∧ Instr.wellFormed 160 (.rPLinebuf 160) = false ∧
    Instr.wellFormed 160 (.wPLinebuf 160 0) = false ∧ Instr.wellFormed 160 (.rCLinebuf 160) = false ∧
    Instr.wellFormed 160 (.wCLinebuf 160 0) = false := by decide

theorem test_wf_reserved_command :
    Instr.wellFormed 160 (.reservedCommand 0x04000000) = true ∧
    Instr.wellFormed 160 (.reservedCommand 0x00000000) = false ∧
    Instr.wellFormed 160 (.reservedCommand 0x0100FFFF) = false ∧
    Instr.wellFormed 160 (.reservedCommand 0x02000003) = false ∧
    Instr.wellFormed 160 (.reservedCommand 0x0300F800) = false := by decide

/-! ### Decoding -/

/-- R110: the descriptor of every P-port register, the data word of a write above bit 23. -/
theorem test_decode_producer_registers :
    ([(0x000000, .rPStatus), (0xDEADBEEF010000, .wPStatus 0xDEADBEEF), (0x000004, .rPBusy),
      (0xDEADBEEF010004, .wPBusy 0xDEADBEEF), (0x000008, .rPMboxTx),
      (0xDEADBEEF010008, .wPMboxTx 0xDEADBEEF), (0x00000C, .rPMboxRx),
      (0xDEADBEEF01000C, .wPMboxRx 0xDEADBEEF), (0x000010, .rPFault),
      (0xDEADBEEF010010, .wPFault 0xDEADBEEF)] :
        List (Nat × Instr)).all (fun x => decodeTableWord 24 x.1 = some x.2) = true := by
  decide

/-- R111: C_STATUS to C_CTRL. -/
theorem test_decode_consumer_registers :
    ([(0x020000, .rCStatus), (0xDEADBEEF030000, .wCStatus 0xDEADBEEF),
      (0x020004, .rCBusyClr), (0xDEADBEEF030004, .wCBusyClr 0xDEADBEEF),
      (0x020008, .rCMboxRx), (0xDEADBEEF030008, .wCMboxRx 0xDEADBEEF),
      (0x02000C, .rCMboxTx), (0xDEADBEEF03000C, .wCMboxTx 0xDEADBEEF),
      (0x020010, .rCFault), (0xDEADBEEF030010, .wCFault 0xDEADBEEF),
      (0x020014, .rCCtrl), (0xDEADBEEF030014, .wCCtrl 0xDEADBEEF)] :
        List (Nat × Instr)).all (fun x => decodeTableWord 24 x.1 = some x.2) = true := by
  decide

/-- R111: C_INIT to C_STREAM_END. -/
theorem test_decode_window_registers :
    ([(0x020040, .rCInit), (0xDEADBEEF030040, .wCInit 0xDEADBEEF), (0x020044, .rCWinCol),
      (0xDEADBEEF030044, .wCWinCol 0xDEADBEEF), (0x020048, .rCWinRow),
      (0xDEADBEEF030048, .wCWinRow 0xDEADBEEF), (0x02004C, .rCWinApply),
      (0xDEADBEEF03004C, .wCWinApply 0xDEADBEEF), (0x020050, .rCSetAddress),
      (0xDEADBEEF030050, .wCSetAddress 0xDEADBEEF), (0x020054, .rCStreamBegin),
      (0xDEADBEEF030054, .wCStreamBegin 0xDEADBEEF), (0x020058, .rCPixel),
      (0xDEADBEEF030058, .wCPixel 0xDEADBEEF), (0x02005C, .rCStreamEnd),
      (0xDEADBEEF03005C, .wCStreamEnd 0xDEADBEEF)] :
        List (Nat × Instr)).all (fun x => decodeTableWord 24 x.1 = some x.2) = true := by
  decide

/-- R111: C_FILL_COLOR to C_DRAW_LINE. -/
theorem test_decode_fill_and_toggle_registers :
    ([(0x020060, .rCFillColor), (0xDEADBEEF030060, .wCFillColor 0xDEADBEEF),
      (0x020064, .rCFillXY), (0xDEADBEEF030064, .wCFillXY 0xDEADBEEF),
      (0x020068, .rCFillWH), (0xDEADBEEF030068, .wCFillWH 0xDEADBEEF),
      (0x02006C, .rCFillGo), (0xDEADBEEF03006C, .wCFillGo 0xDEADBEEF),
      (0x020070, .rCInvert), (0xDEADBEEF030070, .wCInvert 0xDEADBEEF),
      (0x020074, .rCPower), (0xDEADBEEF030074, .wCPower 0xDEADBEEF),
      (0x020078, .rCBacklight), (0xDEADBEEF030078, .wCBacklight 0xDEADBEEF),
      (0x02007C, .rCIdle), (0xDEADBEEF03007C, .wCIdle 0xDEADBEEF),
      (0x020080, .rCDrawLine), (0xDEADBEEF030080, .wCDrawLine 0xDEADBEEF)] :
        List (Nat × Instr)).all (fun x => decodeTableWord 24 x.1 = some x.2) = true := by
  decide

/-- R110: PALETTE[k] at 0x100 + 4k, LINEBUF[i] at 0x1000 + 4i. -/
theorem test_decode_producer_arrays :
    ([(0x000100, .rPPalette 0), (0x00013C, .rPPalette 15),
      (0xDEADBEEF010114, .wPPalette 5 0xDEADBEEF), (0x001000, .rPLinebuf 0),
      (0x00127C, .rPLinebuf 159), (0xDEADBEEF011008, .wPLinebuf 2 0xDEADBEEF)] :
        List (Nat × Instr)).all (fun x => decodeTableWord 24 x.1 = some x.2) = true := by
  decide

/-- R111: PALETTE[k] and LINEBUF[i] from the C-port. -/
theorem test_decode_consumer_arrays :
    ([(0x020100, .rCPalette 0), (0x02013C, .rCPalette 15),
      (0xDEADBEEF030114, .wCPalette 5 0xDEADBEEF), (0x021000, .rCLinebuf 0),
      (0x02127C, .rCLinebuf 159), (0xDEADBEEF031008, .wCLinebuf 2 0xDEADBEEF)] :
        List (Nat × Instr)).all (fun x => decodeTableWord 24 x.1 = some x.2) = true := by
  decide

/-- R103, R104, R114: the command words, and reserved bits and tags. -/
theorem test_decode_commands :
    ([(0x00000000, .nop), (0x0100ABCD, .drawLine 0xABCD), (0x02000001, .setIdle false true),
      (0x02000002, .setIdle true false), (0x0300F800, .setPixel 0xF800),
      (0x00000001, .reservedCommand 1), (0x01010000, .reservedCommand 0x01010000),
      (0x02000004, .reservedCommand 0x02000004),
      (0x03800000, .reservedCommand 0x03800000),
      (0x04000000, .reservedCommand 0x04000000),
      (0xFF000000, .reservedCommand 0xFF000000)] : List (Nat × Instr)).all (fun x => decodeTableWord 32 x.1 = some x.2) = true := by
  decide

/-- 41_panel_receiver.md R200. -/
theorem test_decode_wire :
    ([(0x01, .swreset), (0x10, .slpin), (0x11, .slpout), (0x13, .noron), (0x20, .invoff),
      (0x21, .invon), (0x28, .dispoff), (0x29, .dispon), (0x2A, .caset),
      (0x2B, .raset), (0x2C, .ramwr), (0x36, .madctl), (0x38, .idmoff), (0x39, .idmon),
      (0x3A, .colmod)] : List (Nat × Instr)).all (fun x => decodeTableWord 8 x.1 = some x.2) = true := by
  decide

/-- R101 steps 1, 2 and 5, and a byte outside R200. -/
theorem test_decode_refuses :
    decode 160 (.access 16 0x00000 0) = .error .badAccess ∧
    decode 160 (.access 32 0x00002 0) = .error .badAccess ∧
    decode 160 (.access 32 0x01280 0) = .error .badRegister ∧
    decode 160 (.access 32 0x00014 0) = .error .badRegister ∧
    decode 160 (.access 32 0x20018 0) = .error .badRegister ∧
    decode 160 (.access 32 0x20084 0) = .error .badRegister ∧
    decode 160 (.wire 0x12) = .error .unknownWireByte ∧
    decodeTableWord 24 0x40000 = none ∧ decodeTableWord 16 0x0001 = none := by decide

/-- What the fetch reads is what runs: W.P_MBOX_TX at reset, as the host places it. -/
theorem test_fetch_word :
    (out (step (tiny.withFetchWord 24 0x01000002010008))).map (·.p2c) = some (some 0x01000002) ∧
    (out (step (tiny.withFetchWord 32 0x0300F800))).map (·.phase) =
      some (.exec 0x0300F800 0 false) ∧
    (out (step (shown.withFetchWord 8 0x21))).map (fun s => s.panel.known.map (·.invert)) =
      some (some true) := by decide

/-! ### P-port accesses -/

/-- V38: reads after BUSY is set; V47: ignored writes and the zero read of V37. -/
theorem test_p_status :
    answerP (rd 0x0000) { tiny with busy := true } = some (some 0x00000001) ∧
    answerP (wr 0x0000 0xFFFFFFFF) tiny = some none ∧
    answerP (rd 0x0000) { tiny with palLocked := true } = some (some 0x00000018) := by decide

theorem test_p_busy :
    (out (step (host .p (wr 0x0004 1) tiny))).map (·.busy) = some true ∧
    (out (step (host .p (wr 0x0004 0xFFFFFFFE) tiny))).map (·.busy) = some false ∧
    answerP (rd 0x0004) { tiny with busy := true } = some (some 1) := by decide

/-- V32, V35, V34. -/
theorem test_p_mbox_tx :
    (out (step (host .p (wr 0x0008 0x01000000) tiny))).map (fun s => (s.pStatus, s.cStatus)) =
      some (0x00000013, 0x00000103) ∧
    (out (step (host .p (wr 0x0008 0x0300F800) tiny))).map (·.pStatus) = some 0x00000012 ∧
    (out (step (host .p (wr 0x0008 0) { tiny with busy := true }))).map (·.portP.hold) =
      some (some (.write (.wPMboxTx 0))) ∧
    answerP (rd 0x0008) tiny = some (some 0) := by decide

/-- V36. -/
theorem test_p_mbox_rx :
    answerP (rd 0x000C) { tiny with c2p := some 0x12345678 } = some (some 0x12345678) ∧
    (out (step (host .p (rd 0x000C) tiny))).map (·.portP.hold) = some (some (.read .rPMboxRx)) ∧
    answerP (wr 0x000C 1) tiny = some none := by decide

/-- V40, read from the P-port. -/
theorem test_p_fault :
    answerP (rd 0x0010) { tiny with fault := { code := 6, port := true, disp := false, offset := 0x58 } } =
      some (some 0x00580106) ∧
    answerP (wr 0x0010 5) tiny = some none := by decide

/-- V43, V44. -/
theorem test_p_palette :
    (out (step (host .p (wr 0x0104 0x1234AD55) tiny))).map (·.palette) = some [(1, 0xAD55)] ∧
    answerP (rd 0x0104) { tiny with palette := [(1, 0xAD55)] } = some (some 0x0000AD55) ∧
    faultWord .p (wr 0x0104 0xAD55) { tiny with palLocked := true } = some 0x0104000C ∧
    faultWord .p (rd 0x0110) tiny = some 0x0110000A := by decide

/-- V39, V63 (43_busy_status.md R273), V47 (index 4 = LINE_W). -/
theorem test_p_linebuf :
    (out (step (host .p (wr 0x1000 0xFFFFFF0E) tiny))).map (·.linebuf) = some [(0, 0x0E)] ∧
    faultWord .p (wr 0x1000 0x0E) { tiny with busy := true } = some 0x10000004 ∧
    answerP (rd 0x1000) { tiny with linebuf := [(0, 0x0E)] } = some (some 0x0000000E) ∧
    faultWord .p (rd 0x1000) tiny = some 0x1000000A ∧
    faultWord .p (rd 0x1010) tiny = some 0x10100002 := by decide

/-- V47. -/
theorem test_bad_access :
    faultWord .p { width := 8, write := true, off := 0x0001, data := 0 } tiny = some 0x00010001 ∧
    faultWord .p (rd 0x0020) tiny = some 0x00200002 ∧ faultWord .p (rd 0x0040) tiny = some 0x00400002 := by
  decide

/-! ### C-port accesses -/

/-- R262 and V23. -/
theorem test_c_status :
    answerC (rd 0x0000) { tiny with initDone := true } = some (some 0x00000040) ∧
    answerC (rd 0x0000) { tiny with bl := true } = some (some 0x00000200) ∧
    answerC (wr 0x0000 1) tiny = some none := by decide

/-- V38, V46. -/
theorem test_c_busy_clr :
    (out (step (host .c (wr 0x0004 1) { tiny with busy := true }))).map (·.busy) = some false ∧
    (out (step (host .c (wr 0x0004 0) { tiny with busy := true }))).map (·.busy) = some true ∧
    answerC (rd 0x0004) { waiting with busy := true } = some (some 1) ∧
    faultWord .c (wr 0x0004 1) waiting = some 0x00040103 := by decide

/-- V33, V46. -/
theorem test_c_mbox :
    (out (step (host .c (rd 0x0008) { tiny with p2c := some 0x01000000, busy := true }))).map
      (fun s => (s.portC.answer, s.p2c, s.busy)) = some (some 0x01000000, none, true) ∧
    faultWord .c (rd 0x0008) waiting = some 0x00080103 ∧
    (out (step (host .c (wr 0x000C 0x12345678) waiting))).map (·.c2p) = some (some 0x12345678) ∧
    answerC (rd 0x000C) tiny = some (some 0) ∧ answerC (wr 0x0008 7) tiny = some none := by decide

/-- V45. -/
theorem test_c_ctrl :
    (out (step (host .c (wr 0x0014 1) tiny))).map (fun s => (s.cStatus, s.phase)) =
      some (0x00000080, .waitCmd) ∧
    (out (step (host .c (wr 0x0014 0) waiting))).map (·.dispatchEn) = some true ∧
    answerC (rd 0x0014) waiting = some (some 1) ∧
    faultWord .c (wr 0x0014 1) { tiny with streamOpen := true } = some 0x00140107 := by decide

theorem test_c_fault :
    answerC (rd 0x0010) { tiny with fault := { code := 0x0D, port := true, disp := true, offset := 8 } } =
      some (some 0x0008030D) ∧
    answerC (wr 0x0010 5) tiny = some none := by decide

/-- V1: 44 events; the first four, and those of the window. V3. -/
theorem test_c_init :
    (queued (wr 0x0040 0) tiny).map (·.length) = some 44 ∧
    (queued (wr 0x0040 0) tiny).map (fun l => (l.take 6).drop 2) =
      some [.rst true, .wait 100, .cs false, .cmd 0x01] ∧
    (out (step (host .c (wr 0x0040 0) tiny))).map (fun s => (s.winCol, s.winRow)) =
      some (0x00070000, 0x00050000) ∧
    faultWord .c (wr 0x0040 0) { tiny with streamOpen := true } = some 0x00400107 := by decide

/-- V4, V14. -/
theorem test_c_win :
    (out (step (host .c (wr 0x0044 0x00070002) tiny))).map (·.winCol) = some 0x00070002 ∧
    (out (step (host .c (wr 0x0048 5) { tiny with streamOpen := true }))).map (·.winRow) = some 5 ∧
    answerC (rd 0x0044) { tiny with winCol := 0x00070002 } = some (some 0x00070002) ∧
    answerC (rd 0x0048) { tiny with winRow := 0x00030003 } = some (some 0x00030003) := by decide

/-- V4, V6, V7, V8. -/
theorem test_c_win_apply :
    queued (wr 0x004C 0) { tiny with winCol := 0x00070002, winRow := 0x00030003 } =
      some [.cs false, .cmd 0x2A, .dat 0x00, .dat 0x02, .dat 0x00, .dat 0x07, .cs true,
        .cs false, .cmd 0x2B, .dat 0x00, .dat 0x03, .dat 0x00, .dat 0x03, .cs true,
        .cs false, .cmd 0x2C, .cs true] ∧
    faultWord .c (wr 0x004C 0) { tiny with winCol := 0x00020003 } = some 0x004C0108 ∧
    faultWord .c (wr 0x004C 0) { tiny with winCol := 0x00080000 } = some 0x004C0109 ∧
    faultWord .c (wr 0x004C 0) { tiny with winCol := 0x0009000A } = some 0x004C0108 := by decide

/-- V9, V10. -/
theorem test_c_set_address :
    (out (step (host .c (wr 0x0050 0x00050007) tiny))).map (fun s => (s.winCol, s.winRow)) =
      some (0x00070007, 0x00050005) ∧
    faultWord .c (wr 0x0050 8) tiny = some 0x00500109 ∧
    faultWord .c (wr 0x0050 0x0000FFFF) tiny = some 0x00500109 := by decide

/-- V11, V13, V40. -/
theorem test_c_stream :
    queued (wr 0x0054 0) tiny = some [.cs false] ∧
    queued (wr 0x0058 0xABCDF800) { tiny with streamOpen := true } = some [.dat 0xF8, .dat 0x00] ∧
    queued (wr 0x005C 0) { tiny with streamOpen := true } = some [.cs true] ∧
    faultWord .c (wr 0x0054 0) { tiny with streamOpen := true } = some 0x00540107 ∧
    faultWord .c (wr 0x0058 0xF800) tiny = some 0x00580106 := by decide

/-- V20 and R162, R163. -/
theorem test_c_fill_registers :
    (out (step (host .c (wr 0x0060 0xABCD1234) tiny))).map (·.fillColor) = some 0x00001234 ∧
    (out (step (host .c (wr 0x0064 0x00010002) tiny))).map (·.fillXY) = some 0x00010002 ∧
    (out (step (host .c (wr 0x0068 0x00020003) tiny))).map (·.fillWH) = some 0x00020003 ∧
    answerC (rd 0x0060) { tiny with fillColor := 0x1234 } = some (some 0x1234) := by decide

/-- V16, V17, V18, V19. -/
theorem test_c_fill_go :
    (queued (wr 0x006C 0) { tiny with fillXY := 0x00050007, fillWH := 0x00010001, fillColor := 0xFFFF }).map
      (·.drop 17) = some [.cs false, .dat 0xFF, .dat 0xFF, .cs true] ∧
    faultWord .c (wr 0x006C 0) { tiny with fillWH := 0x00010000 } = some 0x006C0108 ∧
    faultWord .c (wr 0x006C 0) { tiny with fillXY := 7, fillWH := 0x00010002 } = some 0x006C0109 ∧
    faultWord .c (wr 0x006C 0) { tiny with fillXY := 0xFFFF, fillWH := 0x0001FFFF } =
      some 0x006C0109 := by decide

/-- V21, V22, V24, V23. -/
theorem test_c_toggles :
    queued (wr 0x0070 1) tiny = some [.cs false, .cmd 0x21, .cs true] ∧
    queued (wr 0x0070 0xFFFFFFFE) tiny = some [.cs false, .cmd 0x20, .cs true] ∧
    queued (wr 0x0074 1) tiny = some [.cs false, .cmd 0x10, .cs true] ∧
    queued (wr 0x0074 0) tiny = some [.cs false, .cmd 0x11, .cs true, .wait 120] ∧
    queued (wr 0x007C 1) tiny = some [.cs false, .cmd 0x39, .cs true] ∧
    queued (wr 0x007C 0) tiny = some [.cs false, .cmd 0x38, .cs true] := by decide

/-- V23; V14 and V46 let it pass in a stream and past the dispatcher. -/
theorem test_c_backlight :
    queued (wr 0x0078 1) { waiting with streamOpen := true } = some [.bl true] ∧
    answerC (rd 0x0078) { waiting with bl := true } = some (some 1) := by decide

/-- V25 and V31: the mapped halfwords. -/
theorem test_c_draw_line :
    (queued (wr 0x0080 1) drawing).map (·.drop 17) =
      some [.cs false, .dat 0xFF, .dat 0xFF, .dat 0xAD, .dat 0x55, .dat 0x52, .dat 0xAA, .dat 0x00,
        .dat 0x00, .cs true] ∧
    (out (step (host .c (wr 0x0080 1) drawing))).map (fun s => (s.winCol, s.winRow, s.busy)) =
      some (0x00050002, 0x00030003, true) := by decide

/-- V26 to V30, V48. -/
theorem test_c_draw_line_faults :
    faultWord .c (wr 0x0080 2) drawing = some 0x0080010E ∧
    faultWord .c (wr 0x0080 0) { drawing with busy := false } = some 0x00800105 ∧
    faultWord .c (wr 0x0080 0) { drawing with linebuf := [(0, 0), (1, 0x10), (2, 2), (3, 3)] } =
      some 0x1004010B ∧
    faultWord .c (wr 0x0080 0) { drawing with linebuf := [(0, 0), (1, 1), (2, 5), (3, 3)] } =
      some 0x0114010A ∧
    faultWord .c (wr 0x0080 0) { drawing with linebuf := [(0, 0), (1, 1), (2, 2)] } =
      some 0x100C010A ∧
    faultWord .c (wr 0x0080 200) { drawing with streamOpen := true, busy := false } =
      some 0x00800107 := by decide

/-- R271 from the C-port, also past the dispatcher (V46). -/
theorem test_c_palette :
    answerC (rd 0x0100) { waiting with palette := paletteS } = some (some 0x0000FFFF) ∧
    (out (step (host .c (wr 0x013C 0x1234) tiny))).map (·.palette) = some [(15, 0x1234)] := by decide

/-- V41, V42. -/
theorem test_c_linebuf :
    answerC (rd 0x1000) { tiny with busy := true, linebuf := [(0, 0x0E)] } = some (some 0x0000000E) ∧
    faultWord .c (rd 0x1000) tiny = some 0x10000105 ∧
    faultWord .c (wr 0x1000 0) { tiny with busy := true } = some 0x10000105 ∧
    faultWord .c (rd 0x1000) waiting = some 0x10000103 := by decide

/-- R277: while faulted, a read of a full slot returns 0 and does not pop it (V51). -/
theorem test_faulted_read :
    (out (step (host .p (rd 0x000C)
      { tiny with c2p := some 5, fault := { code := 6, port := true, disp := false, offset := 0x58 } }))).map
      (fun s => (s.portP.answer, s.c2p)) = some (some 0, some 5) := by decide

/-! ### The dispatcher -/

/-- V53 and V56. -/
theorem test_dispatcher_pop :
    (out (step { waiting with turns := [.d], p2c := some 0, palLocked := true })).map (·.pStatus) =
      some 0x00000018 ∧
    (out (step { waiting with turns := [.d], p2c := some 0x04000000 })).map
      (fun s => (s.fault.word, s.p2c)) = some (0x0008030D, none) := by decide

/-- R293 to R295: each word's first operation. -/
theorem test_dispatcher_issue :
    (out (step { waiting with turns := [.d], phase := .exec 0x02000001 0 false })).map
      (fun s => s.opQueue.map (·.ev)) = some [.cs false, .cmd 0x39, .cs true] ∧
    (out (step { waiting with turns := [.d], phase := .exec 0x0300F800 2 false, streamOpen := true })).map
      (fun s => s.opQueue.map (·.ev)) = some [.dat 0xF8, .dat 0x00] ∧
    (out (step { drawing with
      turns := [.d], dispatchEn := true, phase := .exec 0x01000001 1 false })).map
      (fun s => (s.busy, s.phase)) = some (false, .waitCmd) := by decide

/-! ### The receiver -/

/-- R208 to R221: each wire command on an initialized panel. -/
theorem test_wire_bits :
    [exec .slpin shown, exec .dispoff shown, exec .invon shown, exec .idmon shown].map
      (fun o => (out o).map fun s => s.panel.known.map fun r =>
        (r.sleep, r.displayOn, r.invert, r.idle)) =
      [some (some (true, true, false, false)), some (some (false, false, false, false)),
       some (some (false, true, true, false)), some (some (false, true, false, true))] := by decide

theorem test_wire_bits_back :
    [exec .slpout shown, exec .dispon shown, exec .invoff shown, exec .idmoff shown,
      exec .noron shown].map
      (fun o => (out o).map fun s => s.panel.known.map fun r =>
        [r.sleep, r.displayOn, r.invert, r.idle, r.normal]) =
      List.replicate 5 (some (some [false, true, false, false, true])) := by decide

theorem test_wire_contexts :
    [exec .caset shown, exec .raset shown, exec .madctl shown, exec .colmod shown,
      exec .ramwr { shown with panel := { shown.panel with known := some { panelRec with xs := 2, ys := 1 } } }].map
      (fun o => (out o).map fun s => s.panel.known.map fun r => (r.ctx, r.cx, r.cy)) =
      [some (some (.params .caset [], 0, 0)), some (some (.params .raset [], 0, 0)),
       some (some (.params .madctl [], 0, 0)), some (some (.params .colmod [], 0, 0)),
       some (some (.memWrite none, 2, 1))] := by decide

/-- R202, R204, R208: SWRESET leaves UNKNOWN. -/
theorem test_wire_swreset :
    (out (exec .swreset tiny)).map (fun s => s.panel.known.map fun r => (r.sleep, r.xe, r.ye, r.colmod)) =
      some (some (true, 7, 5, 0x66)) ∧
    (out (exec .slpout tiny)).map (·.panel.known) = some none := by decide

/-- V59: the wrap of window (2,3,1,2) from its last cell. -/
theorem test_pixel_wrap :
    (({ panelRec with ctx := .memWrite (some 0xAB), xs := 2, xe := 3, ys := 1, ye := 2, cx := 3, cy := 2 } :
      PanelRec).data Config.tiny 0xCD).map (fun r => (r.cx, r.cy, r.gram)) =
      some (2, 1, [(131075, 0xABCD)]) := by decide

/-- V1's last event, performed: INIT_DONE. -/
theorem test_engine_init_done :
    (out (step { tiny with
      turns := [.e]
      opQueue := [{ ev := .wait 120, endsInit := true, ends := some .port }]
      portC := { tiny.portC with hold := some .link } })).map
      (fun s => (s.initDone, s.portC.hold, s.trace)) = some (true, none, [.wait 120]) := by decide

/-! ### Witnesses -/

/-- A whole state in which every invariant of a run holds, the dispatcher waits with a DRAW_LINE word to
pop, and the panel is in a memory write. -/
def running : State :=
  { drawing with
    dispatchEn := true, phase := .waitCmd, p2c := some 0x01000001, palLocked := true
    panel := { inReset := false, bl := false,
               known := some { panelRec with ctx := .memWrite none, cx := 7, cy := 5 } } }

/-- An index the tiny line buffer or palette S lists is one of 0 to 3. -/
theorem running_lists (a : Nat) :
    (∀ e, running.linebuf.read a = some e → a < 4) ∧ (∀ c, running.palette.read a = some c → a < 16) := by
  constructor
  · intro e h
    by_contra hn
    have h0 : 0 ≠ a := by omega
    have h1 : 1 ≠ a := by omega
    have h2 : 2 ≠ a := by omega
    have h3 : 3 ≠ a := by omega
    simp [running, drawing, Memory.read, h0, h1, h2, h3] at h
  · intro c h
    by_contra hn
    have h0 : 0 ≠ a := by omega
    have h1 : 1 ≠ a := by omega
    have h2 : 2 ≠ a := by omega
    have h3 : 3 ≠ a := by omega
    simp [running, drawing, paletteS, Memory.read, h0, h1, h2, h3] at h

/-- The stores of such a state, whatever else it holds. -/
theorem stores_of (s : State) (h1 : s.linebuf = running.linebuf) (h2 : s.palette = running.palette)
    (h3 : s.panel = running.panel) (h4 : s.cfg = Config.tiny) : s.StoresWf := by
  refine ⟨by rw [h1]; decide, by rw [h2]; decide, ?_, ?_, ?_⟩
  · intro a e h; rw [h4]; exact (running_lists a).1 e (h1 ▸ h)
  · intro k c h; exact (running_lists k).2 c (h2 ▸ h)
  · intro r h
    rw [h3] at h
    have : some { panelRec with ctx := .memWrite none, cx := 7, cy := 5 } = some r := h
    cases this; rfl

/-- The panel of such a state. -/
theorem panel_of (s : State) (h : s.panel = running.panel) : s.PanelSound := by
  intro r hr
  rw [h] at hr
  have : some { panelRec with ctx := .memWrite none, cx := 7, cy := 5 } = some r := hr
  cases this
  refine ⟨by decide, by decide, ?_, ?_⟩
  · intro pending _; decide
  · intro cmd got hc; cases hc

/-- `running`, with the turn of the agent given, is sound. -/
theorem running_inv (ts : List Turn) : ({ running with turns := ts } : State).Inv where
  stores := stores_of _ rfl rfl rfl rfl
  halted := by intro h; cases h
  latch := ⟨(by decide : running.fault.code.toNat ≤ 0x0E), fun _ => rfl⟩
  holds := ⟨(by intro h e; cases e), (by intro h e; cases e)⟩
  phase := ⟨by simp [running], by intro w k issued e; cases e⟩
  engine := ⟨rfl, by intro _; rfl⟩
  regs := ⟨fun _ => rfl, (by decide : highHalf running.fillColor = 0)⟩
  panel := panel_of _ rfl

/-- The dispatcher at the last operation of a SET_PIXEL, which closes its stream. -/
def closing : State :=
  { running with
    turns := [.d], phase := .exec 0x0300F800 3 false, p2c := none, busy := false, streamOpen := true }

theorem closing_inv : closing.Inv where
  stores := stores_of _ rfl rfl rfl rfl
  halted := by intro h; cases h
  latch := ⟨by decide, by intro _; rfl⟩
  holds := ⟨(by intro h e; cases e), (by intro h e; cases e)⟩
  phase := ⟨by simp [closing, running], by
    intro w k issued e
    cases e
    exact ⟨(0x005C, 0), by decide, by decide⟩⟩
  engine := ⟨rfl, by intro _; rfl⟩
  regs := ⟨by intro h; rfl, by decide⟩
  panel := panel_of _ rfl

theorem witness_DecodeOfEncode :
    Instr.wellFormed 1 (.wCLinebuf 0 7) = true ∧ Instr.wellFormed 1024 (.rPLinebuf 1023) = true ∧
    Instr.wellFormed 160 (.reservedCommand 0xFFFFFFFF) = true := by decide

theorem witness_EncodeOfDecode :
    decode 160 (.access 32 0x1127C 5) = .ok (.wPLinebuf 159 5) ∧
    decode 160 (.access 32 0x0127C 5) = .ok (.rPLinebuf 159) ∧ decodeWire 0x3A = .ok .colmod := by decide

theorem witness_DecodedIsWellFormed :
    decode 160 (.access 32 0x2127C 0) = .ok (.rCLinebuf 159) ∧
    decode 160 (.command 0x0100FFFF) = .ok (.drawLine 0xFFFF) ∧ decode 160 (.wire 0x01) = .ok .swreset := by
  decide

theorem witness_StepRunsTheDecodedOperation :
    (let s := host .p (rd 0x100C) tiny
     s.readyHeld = none ∧ s.turns = [.p] ∧ s.portP.hold = none ∧ s.portP.reqs = [rd 0x100C] ∧
     decode s.cfg.lineW (.access 32 (descriptor false false 0x100C) 0) = .ok (.rPLinebuf 3)) ∧
    (let s := host .c (wr 0x0080 1) drawing
     s.readyHeld = none ∧ s.turns = [.c] ∧ s.portC.hold = none ∧ s.portC.reqs = [wr 0x0080 1] ∧
     decode s.cfg.lineW (.access 32 (descriptor true true 0x0080) 1) = .ok (.wCDrawLine 1)) ∧
    (let s := { running with turns := [.d] }
     s.readyHeld = none ∧ s.turns = [.d] ∧ s.faulted = false ∧ s.phase = .waitCmd ∧
     s.p2c = some 0x01000001 ∧ decode s.cfg.lineW (.command 0x01000001) = .ok (.drawLine 1)) ∧
    (let s := { tiny with turns := [.e], opQueue := [{ ev := .cmd 0x29 }] }
     s.readyHeld = none ∧ s.turns = [.e] ∧ s.faulted = false ∧ s.opQueue = [{ ev := .cmd 0x29 }] ∧
     decode s.cfg.lineW (.wire 0x29) = .ok .dispon) := by decide

/-- Each offset is a first or last one of its range: a narrow access, an unaligned one, and the offsets
beside the maps. -/
theorem witness_UnmappedAndNarrowAccessesFault :
    tiny.readyHeld = none ∧ tiny.faulted = false ∧ tiny.cfg.lineW ≤ 1024 ∧
    (host .p (rd 0x0014) tiny).portP.reqs = [rd 0x0014] ∧ (host .c (rd 0x0018) tiny).portC.reqs = [rd 0x0018] ∧
    ({ rd 0 with width := 16 } : Access).width ≠ 32 ∧ (0x1001 : Half).toNat % 4 ≠ 0 ∧
    (∀ off ∈ [0x0014, 0x00FC, 0x0140, 0x0FFC, 0x1010, 0x1FFC, 0x2000, 0xFFFC],
      off % 4 = 0 ∧ off ∉ [0x00, 0x04, 0x08, 0x0C, 0x10] ∧ ¬ (0x100 ≤ off ∧ off < 0x140) ∧
      ¬ (0x1000 ≤ off ∧ off < 0x1000 + 4 * tiny.cfg.lineW)) ∧
    (∀ off ∈ [0x0018, 0x003C, 0x0084, 0x00FC, 0x0140, 0x1010, 0xFFFC],
      off % 4 = 0 ∧ ¬ off < 0x18 ∧ ¬ (0x40 ≤ off ∧ off < 0x84) ∧ ¬ (0x100 ≤ off ∧ off < 0x140) ∧
      ¬ (0x1000 ≤ off ∧ off < 0x1000 + 4 * tiny.cfg.lineW)) := by decide

theorem witness_StatusReadsShowTheirBits :
    running.portP.hold = none ∧ running.portC.hold = none := by decide

theorem witness_IgnoredWritesAndZeroReads :
    tiny.portP.hold = none ∧ tiny.portC.hold = none ∧ tiny.OwnedByC := by decide

theorem witness_StagingRegisters :
    ({ tiny with streamOpen := true } : State).OwnedByC ∧ waiting.ReadyC ∧ waiting.dispatchEn = true := by
  decide

theorem witness_BusyAndControlRegisters :
    drawing.ReadyP ∧ drawing.ReadyC ∧ drawing.dispatchEn = false ∧ running.ReadyC ∧
    running.dispatchEn = true ∧ (0xFFFFFFFE : Word).getLsbD 0 = false ∧ (1 : Word).getLsbD 0 = true ∧
    closing.ReadyC ∧ closing.streamOpen = true ∧ waiting.ReadyC ∧ waiting.streamOpen = false := by decide

theorem witness_BacklightRegister : closing.ReadyC := by decide

theorem witness_PaletteAccesses :
    tiny.ReadyP ∧ tiny.ReadyC ∧ tiny.palLocked = false ∧ running.ReadyP ∧ running.ReadyC ∧
    running.palLocked = true ∧ running.palette.read (3 : BitVec 4).toNat = some 0x0000 ∧
    running.palette.read (4 : BitVec 4).toNat = none ∧ tiny.palette.read (15 : BitVec 4).toNat = none := by
  decide

theorem witness_ProducerLineBufferAccesses :
    drawing.ReadyP ∧ (3 : BitVec 10).toNat < drawing.cfg.lineW ∧ drawing.busy = true ∧
    (let s := { drawing with busy := false }
     s.ReadyP ∧ s.busy = false ∧ s.linebuf.read (3 : BitVec 10).toNat = some 3) ∧
    tiny.busy = false ∧ tiny.linebuf.read (0 : BitVec 10).toNat = none := by decide

theorem witness_ConsumerLineBufferAccesses :
    running.ReadyC ∧ (3 : BitVec 10).toNat < running.cfg.lineW ∧ running.dispatchEn = true ∧
    drawing.ReadyC ∧ drawing.dispatchEn = false ∧ drawing.busy = true ∧
    drawing.linebuf.read (3 : BitVec 10).toNat = some 3 ∧
    (let s := { tiny with busy := true }
     s.ReadyC ∧ s.dispatchEn = false ∧ s.linebuf.read (0 : BitVec 10).toNat = none) ∧
    tiny.dispatchEn = false ∧ tiny.busy = false := by decide

theorem witness_MailboxAccessesPerform :
    tiny.ReadyP ∧ tiny.p2c = none ∧ tiny.busy = false ∧ tiny.ReadyC ∧ tiny.c2p = none ∧
    ({ tiny with p2c := some 0x01000000, busy := true } : State).OwnedByC ∧
    ({ tiny with c2p := some 0x12345678 } : State).ReadyP := by decide

theorem witness_MailboxAccessesHold :
    drawing.ReadyP ∧ drawing.busy = true ∧ running.ReadyP ∧ running.p2c ≠ none ∧ tiny.OwnedByC ∧
    tiny.p2c = none ∧ ({ tiny with c2p := some 0 } : State).ReadyC ∧ tiny.ReadyP ∧ tiny.c2p = none := by
  decide

theorem witness_HeldAccessIsPerformedFirst :
    (let s := { tiny with portP := { tiny.portP with hold := some (.write (.wPMboxTx 0x01000000)) } }
     s.faulted = false ∧ s.portP.hold = some (.write (.wPMboxTx 0x01000000)) ∧ s.p2c = none ∧
     s.busy = false) ∧
    (let s := { tiny with c2p := some 5, portP := { tiny.portP with hold := some (.read .rPMboxRx) } }
     s.faulted = false ∧ s.portP.hold = some (.read .rPMboxRx) ∧ s.c2p = some 5) ∧
    (let s := { tiny with p2c := some 5, portC := { tiny.portC with hold := some (.read .rCMboxRx) } }
     s.faulted = false ∧ s.dispatchEn = false ∧ s.portP.hold = none ∧
     s.portC.hold = some (.read .rCMboxRx) ∧ s.p2c = some 5) ∧
    (let s := { tiny with portC := { tiny.portC with hold := some (.write (.wCMboxTx 5)) } }
     s.faulted = false ∧ s.portP.hold = none ∧ s.portC.hold = some (.write (.wCMboxTx 5)) ∧
     s.c2p = none) := by decide

/-- The last column and row of the panel, and the first beyond them. -/
theorem witness_WindowOperations :
    (let s := { tiny with winCol := (7 : Half) ++ (7 : Half), winRow := (5 : Half) ++ (5 : Half) }
     s.OwnedByC ∧ s.streamOpen = false ∧ (7 : Half).toNat < s.cfg.panelW ∧ (5 : Half).toNat < s.cfg.panelH) ∧
    (let s := { tiny with winCol := (2 : Half) ++ (3 : Half) }
     s.OwnedByC ∧ (2 : Half).toNat < (3 : Half).toNat) ∧
    (let s := { tiny with winCol := (8 : Half) ++ (8 : Half), winRow := (6 : Half) ++ (0 : Half) }
     s.OwnedByC ∧ s.cfg.panelW ≤ (8 : Half).toNat ∧ s.cfg.panelH ≤ (6 : Half).toNat) ∧
    (0x00050007 : Word) = (5 : Half) ++ (7 : Half) ∧ (0x0000FFFF : Word) = (0 : Half) ++ (0xFFFF : Half) := by
  decide

theorem witness_InitializeQueuesItsSequence : tiny.OwnedByC ∧ tiny.streamOpen = false := by decide

theorem witness_PixelStream :
    tiny.OwnedByC ∧ tiny.streamOpen = false ∧ ({ tiny with streamOpen := true } : State).OwnedByC := by decide

/-- A rectangle that ends at the panel's corner, an empty one, and one that leaves the panel. -/
theorem witness_FillOperation :
    (let s := { tiny with fillXY := (5 : Half) ++ (6 : Half), fillWH := (1 : Half) ++ (2 : Half) }
     s.OwnedByC ∧ s.streamOpen = false ∧ s.fillColor.extractLsb' 0 16 = (0 : Half) ∧
     (6 : Half).toNat + (2 : Half).toNat ≤ s.cfg.panelW ∧ (5 : Half).toNat + (1 : Half).toNat ≤ s.cfg.panelH) ∧
    (let s := { tiny with fillWH := (1 : Half) ++ (0 : Half) }
     s.OwnedByC ∧ (0 : Half).toNat = 0) ∧
    (let s := { tiny with fillXY := (0 : Half) ++ (7 : Half), fillWH := (1 : Half) ++ (2 : Half) }
     s.OwnedByC ∧ s.cfg.panelW < (7 : Half).toNat + (2 : Half).toNat) := by decide

theorem witness_ToggleOperations :
    tiny.OwnedByC ∧ tiny.streamOpen = false ∧ (0xFFFFFFFE : Word).getLsbD 0 = false := by decide

/-- Every element of `drawing` maps to an entry of palette S. -/
theorem drawing_maps (i : Nat) (h : i < 4) :
    ∃ e, drawing.linebuf.read i = some e ∧ e.extractLsb' 4 4 = 0 ∧
      drawing.palette.read (e.extractLsb' 0 4).toNat =
        ([0xFFFF, 0xAD55, 0x52AA, 0x0000] : List Half)[i]? := by
  interval_cases i
  · exact ⟨0, rfl, rfl, rfl⟩
  · exact ⟨1, rfl, rfl, rfl⟩
  · exact ⟨2, rfl, rfl, rfl⟩
  · exact ⟨3, rfl, rfl, rfl⟩

/-- The last row, SRC_H - 1 = 1. -/
theorem witness_DrawLineStreamsTheMappedRow :
    drawing.OwnedByC ∧ drawing.streamOpen = false ∧ drawing.busy = true ∧
    ((1 : Word).extractLsb' 0 16).toNat < drawing.cfg.srcH ∧
    ([0xFFFF, 0xAD55, 0x52AA, 0x0000] : List Half).length = drawing.cfg.lineW ∧
    (∀ i, i < drawing.cfg.lineW → ∃ e, drawing.linebuf.read i = some e ∧ e.extractLsb' 4 4 = 0 ∧
      drawing.palette.read (e.extractLsb' 0 4).toNat =
        ([0xFFFF, 0xAD55, 0x52AA, 0x0000] : List Half)[i]?) :=
  ⟨by decide, rfl, rfl, by decide, rfl, drawing_maps⟩

/-- The first row beyond, and a line buffer whose last element is unwritten, has bits [7:4] set, or
names an unwritten entry. -/
theorem witness_DrawLineFaults :
    tiny.OwnedByC ∧ tiny.streamOpen = false ∧ tiny.busy = false ∧ drawing.OwnedByC ∧
    drawing.cfg.srcH ≤ ((2 : Word).extractLsb' 0 16).toNat ∧
    ((1 : Word).extractLsb' 0 16).toNat < drawing.cfg.srcH ∧ 3 < drawing.cfg.lineW ∧
    (∀ j, j < 3 → ∃ e c, drawing.linebuf.read j = some e ∧ e.extractLsb' 4 4 = 0 ∧
      drawing.palette.read (e.extractLsb' 0 4).toNat = some c) ∧
    Memory.read ([(0, 0), (1, 1), (2, 2)] : Memory Byte) 3 = none ∧
    (0x10 : Byte).extractLsb' 4 4 ≠ 0 ∧ (0x04 : Byte).extractLsb' 4 4 = 0 ∧
    drawing.palette.read ((0x04 : Byte).extractLsb' 0 4).toNat = none := by
  refine ⟨by decide, rfl, rfl, by decide, by decide, by decide, by decide, ?_, rfl, by decide, by decide, by decide⟩
  intro j h
  interval_cases j
  · exact ⟨0, 0xFFFF, rfl, rfl, rfl⟩
  · exact ⟨1, 0xAD55, rfl, rfl, rfl⟩
  · exact ⟨2, 0x52AA, rfl, rfl, rfl⟩

theorem witness_OwnerRestriction :
    running.ReadyC ∧ running.dispatchEn = true ∧ (3 : BitVec 10).toNat < running.cfg.lineW := by decide

theorem witness_StreamGuard : ({ tiny with streamOpen := true } : State).OwnedByC := by decide

/-- A block that has faulted, and one whose ports are held. -/
def faultedBlock : State :=
  { tiny with fault := { code := 6, port := true, disp := false, offset := 0x58 }, turns := [.c] }

theorem witness_FaultedAndHeldPorts :
    encode (.wPBusy 1) = .access 32 0x10004 1 ∧ encode .rCCtrl = .access 32 0x20014 0 ∧
    faultedBlock.faulted = true ∧ faultedBlock.portP.hold = none ∧ faultedBlock.portC.hold = none ∧
    Instr.wPBusy 1 ∉ [Instr.rPStatus, .rCStatus, .rPFault, .rCFault] ∧
    ({ tiny.portP with hold := some (.read .rPMboxRx) } : Port).hold ≠ none ∧
    ({ tiny.portC with hold := some .link } : Port).hold ≠ none ∧
    (let s := host .p { rd 0 with width := 8 } faultedBlock
     s.readyHeld = none ∧ s.faulted = true ∧ s.turns = [.p] ∧ s.portP.reqs = [{ rd 0 with width := 8 }] ∧
     decode s.cfg.lineW (.access 8 (descriptor false false 0) 0) = .error .badAccess) ∧
    (let s := host .c (rd 0x0018) faultedBlock
     s.readyHeld = none ∧ s.faulted = true ∧ s.turns = [.c] ∧ s.portC.reqs = [rd 0x0018] ∧
     decode s.cfg.lineW (.access 32 (descriptor true false 0x0018) 0) = .error .badRegister) := by decide

theorem witness_FaultedStateIsFinal :
    faultedBlock.faulted = true ∧ faultedBlock.HoldsSound ∧ faultedBlock.turns.head? ≠ some .reset ∧
    ∃ t, step faultedBlock = .next t :=
  ⟨rfl, ⟨(by intro h e; cases e), (by intro h e; cases e)⟩, by decide, ⟨_, rfl⟩⟩

theorem witness_FaultsArePrecise :
    (host .c (wr 0x0058 0) drawing).faulted = false ∧
    (out (step (host .c (wr 0x0058 0) drawing))).map (·.faulted) = some true ∧
    (out (step { waiting with turns := [.d], p2c := some 0x04000000 })).map (·.faulted) = some true := by
  decide

theorem witness_FaultReleasesHeldAccesses :
    tiny.faulted = false ∧ faultedBlock.faulted = true ∧ (tiny.port .p).hold = none ∧
    (({ tiny with portC := { tiny.portC with hold := some (.read .rCMboxRx) } } : State).port .c).hold =
      some (.read .rCMboxRx) ∧
    (({ tiny with portC := { tiny.portC with hold := some .link } } : State).port .c).hold = some .link ∧
    (({ tiny with portP := { tiny.portP with hold := some (.write (.wPMboxTx 0)) } } : State).port .p).hold =
      some (.write (.wPMboxTx 0)) := by decide

theorem witness_CommandWordsArePopped :
    waiting.faulted = false ∧ waiting.phase = .waitCmd ∧
    ({ waiting with p2c := some 0 } : State).p2c = some 0 ∧
    running.p2c = some (BitVec.ofNat 32 (0x01000000 + (1 : Half).toNat)) ∧
    (0x02000003 : Word) = BitVec.ofNat 32 (0x02000000 + 2 * true.toNat + true.toNat) ∧
    (0x0300FFFF : Word) = BitVec.ofNat 32 (0x03000000 + (0xFFFF : Half).toNat) ∧
    decodeCommand 0x02000004 = .reservedCommand 0x02000004 := by decide

/-- The largest word of each row of R291, and words just beyond. -/
theorem witness_CommandOperations :
    (0x0100FFFF : Word).extractLsb' 24 8 = 0x01 ∧ (0x0100FFFF : Word).extractLsb' 16 8 = 0 ∧
    (0x02000003 : Word).extractLsb' 24 8 = 0x02 ∧ (0x02000003 : Word).extractLsb' 2 22 = 0 ∧
    (0x0300FFFF : Word).extractLsb' 24 8 = 0x03 ∧ (0x0300FFFF : Word).extractLsb' 16 8 = 0 ∧
    (∀ w ∈ ([0x00000001, 0x01010000, 0x02000004, 0x03010000, 0x04000000, 0xFFFFFFFF] : List Word),
      w ≠ 0 ∧ ¬ (w.extractLsb' 24 8 = 0x01 ∧ w.extractLsb' 16 8 = 0) ∧
      ¬ (w.extractLsb' 24 8 = 0x02 ∧ w.extractLsb' 2 22 = 0) ∧
      ¬ (w.extractLsb' 24 8 = 0x03 ∧ w.extractLsb' 16 8 = 0)) := by
  refine ⟨by decide, by decide, by decide, by decide, by decide, by decide, ?_⟩
  simp

theorem witness_SetIdleRuns :
    (let s := { waiting with p2c := some (BitVec.ofNat 32 (0x02000000 + 2 * true.toNat + false.toNat)) }
     s.faulted = false ∧ s.phase = .waitCmd ∧ s.portP.hold = none ∧ s.portC.hold = none ∧
     s.opQueue = [] ∧ s.streamOpen = false ∧ s.p2c = some 0x02000002) := by decide

theorem witness_SetPixelRuns :
    (let s := { waiting with p2c := some (BitVec.ofNat 32 (0x03000000 + (0xF800 : Half).toNat)) }
     s.cfg.Legal ∧ s.faulted = false ∧ s.phase = .waitCmd ∧ s.portP.hold = none ∧
     s.portC.hold = none ∧ s.opQueue = [] ∧ s.streamOpen = false ∧ s.p2c = some 0x0300F800) := by decide

theorem witness_DrawLineRuns :
    running.faulted = false ∧ running.phase = .waitCmd ∧ running.portP.hold = none ∧
    running.portC.hold = none ∧ running.opQueue = [] ∧ running.streamOpen = false ∧
    running.busy = true ∧ (1 : Half).toNat < running.cfg.srcH ∧
    ([0xFFFF, 0xAD55, 0x52AA, 0x0000] : List Half).length = running.cfg.lineW ∧
    (∀ i, i < running.cfg.lineW → ∃ e, running.linebuf.read i = some e ∧ e.extractLsb' 4 4 = 0 ∧
      running.palette.read (e.extractLsb' 0 4).toNat =
        ([0xFFFF, 0xAD55, 0x52AA, 0x0000] : List Half)[i]?) ∧
    running.p2c = some (BitVec.ofNat 32 (0x01000000 + (1 : Half).toNat)) :=
  ⟨rfl, rfl, rfl, rfl, rfl, rfl, rfl, by decide, rfl, drawing_maps, by decide⟩

theorem witness_EnginePerformsTheHead :
    (let s := { tiny with turns := [.e], opQueue := [{ ev := .bl true, ends := some .port }]
                          portC := { tiny.portC with hold := some .link } }
     s.readyHeld = none ∧ s.faulted = false ∧ s.turns = [.e] ∧
     s.opQueue = [{ ev := .bl true, ends := some .port }]) ∧
    (let s := { running with turns := [.e], opQueue := [{ ev := .cs true, ends := some .disp }]
                             phase := .exec 0x0300F800 3 true }
     s.readyHeld = none ∧ s.faulted = false ∧ s.turns = [.e] ∧
     3 + 1 = (commandOps s.cfg 0x0300F800).length) := by decide

theorem witness_EnginePerformsTheHead_unlisted (i : Instr) : encode i ≠ .wire 0x00 := by
  cases i <;> simp [encode, readCode, writeCode]

/-- A panel that is one byte short of a column range, as a block reset in mid-frame leaves it. -/
def shortRec : PanelRec := { panelRec with ctx := .params .caset [0, 0, 0] }

/-- A block in front of that panel. -/
def cutShort : State := { shown with panel := { shown.panel with known := some shortRec } }

/-- R207: a command byte that cuts CASET short; SWRESET recovers (log 15). -/
theorem test_wire_cut_short :
    (out (exec .slpout cutShort)).map (·.panel.known) = some none ∧
    (out (exec .swreset cutShort)).map (fun s => s.panel.known.map (·.xe)) = some (some 7) := by decide

theorem witness_WireCommandsOnAKnownPanel :
    shown.panel.inReset = false ∧ shown.panel.known = some panelRec ∧
    (∀ cmd got, panelRec.ctx = .params cmd got → cmd.count ≤ got.length) ∧
    cutShort.panel.inReset = false ∧ cutShort.panel.known = some shortRec ∧
    shortRec.ctx = .params .caset [0, 0, 0] ∧ [(0 : Byte), 0, 0].length < ParamCmd.caset.count ∧
    encode .ramwr = .wire 0x2C ∧ (0x2C : Byte) ≠ 0x01 :=
  ⟨rfl, rfl, (by intro cmd got h; cases h), rfl, rfl, rfl, by decide, rfl, by decide⟩

theorem witness_PanelResets :
    tiny.cfg.Legal ∧ tiny.panel.known = none ∧ tiny.panel.inReset = false ∧ shown.cfg.Legal ∧
    shown.panel.inReset = false ∧ shown.panel.known = some panelRec ∧
    (∀ cmd got, panelRec.ctx = .params cmd got → cmd.count ≤ got.length) ∧ cutShort.cfg.Legal ∧
    cutShort.panel.inReset = false ∧ cutShort.panel.known = some shortRec ∧
    shortRec.ctx = .params .caset [0, 0, 0] ∧ [(0 : Byte), 0, 0].length < ParamCmd.caset.count :=
  ⟨by decide, rfl, rfl, by decide, rfl, rfl, (by intro cmd got h; cases h), by decide, rfl, rfl, rfl,
    by decide⟩

theorem witness_PanelIgnoresCommands :
    encode .dispon = .wire 0x29 ∧ ({ shown.panel with inReset := true } : Panel).inReset = true ∧
    tiny.panel.known = none ∧ (0x29 : Byte) ≠ 0x01 := by decide

theorem witness_PanelDataBytes :
    shown.panel.inReset = false ∧ shown.panel.known = some panelRec ∧ panelRec.ctx = .none ∧
    ({ panelRec with ctx := .params .caset [] } : PanelRec).ctx = .params .caset [] ∧
    ({ panelRec with ctx := .params .raset [] } : PanelRec).ctx = .params .raset [] ∧
    ({ panelRec with ctx := .params .madctl [] } : PanelRec).ctx = .params .madctl [] ∧
    ({ panelRec with ctx := .params .colmod [] } : PanelRec).ctx = .params .colmod [] ∧
    ({ panelRec with ctx := .memWrite none, colmod := 0x66 } : PanelRec).colmod ≠
      Config.tiny.colmod16bpp ∧
    ({ panelRec with ctx := .memWrite none } : PanelRec).colmod = Config.tiny.colmod16bpp := by decide

/-- A one-cell window at the panel's last cell. -/
theorem witness_WindowStreamCoversTheWindow :
    (let s := { shown with opQueue := windowEvents 7 7 5 5 ++ streamEvents [0xABCD] }
     s.faulted = false ∧ s.portP.hold = none ∧ s.portC.hold = none ∧ s.panel.inReset = false ∧
     s.panel.known = some panelRec ∧ panelRec.colmod = s.cfg.colmod16bpp ∧
     (7 : Half).toNat < s.cfg.panelW ∧ (5 : Half).toNat < s.cfg.panelH ∧
     s.opQueue.map (·.ev) = windowWire 7 7 5 5 ++ streamWire [0xABCD]) ∧
    ∀ cmd got, panelRec.ctx ≠ .params cmd got :=
  ⟨by decide, by intro cmd got h; cases h⟩

theorem witness_FillPaintsTheRectangle :
    (let s := { shown with fillXY := (5 : Half) ++ (6 : Half), fillWH := (1 : Half) ++ (2 : Half)
                           fillColor := 0x0000FFFF }
     s.OwnedByC ∧ s.streamOpen = false ∧ s.portP.hold = none ∧ s.opQueue = [] ∧ s.cfg.Legal ∧
     s.panel.inReset = false ∧ s.panel.known = some panelRec ∧ panelRec.colmod = s.cfg.colmod16bpp ∧
     s.fillColor.extractLsb' 0 16 = (0xFFFF : Half) ∧
     (6 : Half).toNat + (2 : Half).toNat ≤ s.cfg.panelW ∧
     (5 : Half).toNat + (1 : Half).toNat ≤ s.cfg.panelH) ∧
    ∀ cmd got, panelRec.ctx ≠ .params cmd got :=
  ⟨by decide, by intro cmd got h; cases h⟩

theorem witness_InitializationSetsThePanel :
    tiny.OwnedByC ∧ tiny.streamOpen = false ∧ tiny.portP.hold = none ∧ tiny.opQueue = [] ∧
    tiny.cfg.Legal ∧ shown.OwnedByC ∧ shown.panel.known = some panelRec := by decide

theorem witness_StickyBitsStay :
    (let s := { running with turns := [.d], initDone := true }
     (out (step s)).isSome = true ∧ s.turns.head? ≠ some .reset ∧ s.palLocked = true ∧
     s.dispatchEn = true ∧ s.initDone = true) := by decide

theorem witness_LockedPaletteAndBusyLineBufferAreImmutable :
    (let s := host .p (wr 0x1000 5) running
     (out (step s)).isSome = true ∧ s.turns.head? ≠ some .reset ∧ s.palLocked = true ∧
     s.busy = true) := by decide

theorem witness_TraceGrowsOnlyByTheEngine :
    ({ running with turns := [.e], opQueue := [{ ev := .cs true }] } : State).HoldsSound ∧
    (out (step { running with turns := [.e], opQueue := [{ ev := .cs true }] })).map (·.trace) =
      some [.cs true] :=
  ⟨⟨(by intro h e; cases e), (by intro h e; cases e)⟩, by decide⟩

theorem witness_ProducerCannotReachTheLink :
    (let s := host .p (wr 0x0100 5) running
     s.readyHeld = none ∧ s.turns = [.p] ∧ (out (step s)).isSome = true) := by decide

theorem witness_StepKeepsStores :
    (host .p (wr 0x1004 9) running).StoresWf ∧ (out (step (host .p (wr 0x1004 9) running))).isSome = true :=
  ⟨stores_of _ rfl rfl rfl rfl, by decide⟩

theorem witness_StepKeepsHaltLatchAndRegisters :
    faultedBlock.Halted ∧ faultedBlock.LatchSound ∧ faultedBlock.RegsSound ∧ running.Halted ∧
    running.LatchSound ∧ running.RegsSound ∧ (out (step faultedBlock)).isSome = true := by decide

theorem witness_StepKeepsHolds :
    ({ tiny with portP := { tiny.portP with hold := some (.read .rPMboxRx) }
                 portC := { tiny.portC with hold := some .link } } : State).HoldsSound :=
  ⟨(by intro h e; cases e; exact .inl rfl), (by intro h e; cases e; exact .inr (.inr rfl))⟩

theorem witness_StepKeepsPhase : closing.PhaseSound ∧ (out (step closing)).isSome = true :=
  ⟨closing_inv.phase, by decide⟩

theorem witness_StepKeepsEngine :
    ({ running with
        turns := [.e], p2c := none, phase := .exec 0x01000001 0 true
        opQueue := [{ ev := .cs true, ends := some .disp }, { ev := .bl true, ends := some .port }]
        portC := { tiny.portC with hold := some .link } } : State).EngineSound := by decide

theorem witness_StepKeepsPanel :
    ({ running with turns := [.e], opQueue := [{ ev := .dat 0xFF }] } : State).PanelSound :=
  panel_of _ rfl

theorem witness_ResetIsSound :
    running.PanelSound ∧ (∀ r, running.panel.known = some r → r.gram.wf = true) :=
  ⟨panel_of _ rfl, (running_inv []).stores.2.2.2.2⟩

theorem witness_BlockResetRestoresEverything :
    (let s := { faultedBlock with turns := [.reset, .p] }
     s.readyHeld = none ∧ s.turns = .reset :: [.p]) := by decide

theorem witness_StepKeepsBusyExact :
    (let s := { running with turns := [.d] }
     s.Inv ∧ s.BusyExact ∧ s.dispatchEn = true ∧
     (∀ a ∈ s.portP.reqs, a.write = true → a.off = 0x0004 → a.data.getLsbD 0 = false) ∧
     (out (step s)).isSome = true) :=
  ⟨running_inv _, by decide, rfl, (by intro a ha; cases ha), by decide⟩

/-- The biconditional of `StreamPaired` at the last operation of a SET_PIXEL. -/
theorem witness_StepKeepsStreamPaired :
    closing.Inv ∧ closing.StreamPaired ∧ closing.dispatchEn = true ∧ (out (step closing)).isSome = true :=
  ⟨closing_inv, by
    intro _ _
    exact ⟨fun _ => ⟨0x0300F800, 3, false, rfl, by decide, .inr (.inr ⟨rfl, rfl⟩)⟩, fun _ => rfl⟩,
    rfl, by decide⟩

/-- A row beyond the source: the dispatcher's C_DRAW_LINE faults. -/
def overrun : State := { running with turns := [.d], phase := .exec 0x01000002 0 false, p2c := none }

theorem witness_DispatcherFaults :
    overrun.Inv ∧ overrun.BusyExact ∧ overrun.StreamPaired ∧ overrun.cfg.Legal ∧
    overrun.readyHeld = none ∧ overrun.turns = [.d] ∧ overrun.faulted = false ∧
    (out (step overrun)).map (·.fault.word) = some 0x0080030E ∧
    overrun.phase = .exec (BitVec.ofNat 32 (0x01000000 + (2 : Half).toNat)) 0 false ∧
    overrun.streamOpen = false ∧ overrun.busy = true ∧ overrun.cfg.srcH ≤ (2 : Half).toNat := by
  refine ⟨?_, by decide, ?_, by decide, by decide, rfl, rfl, by decide, by decide, rfl, rfl, by decide⟩
  · exact
      { stores := stores_of _ rfl rfl rfl rfl
        halted := by intro h; cases h
        latch := ⟨by decide, by intro _; rfl⟩
        holds := ⟨(by intro h e; cases e), (by intro h e; cases e)⟩
        phase := ⟨by simp [overrun, running], by
          intro w k issued e
          cases e
          exact ⟨(0x0080, 2), by decide, by decide⟩⟩
        engine := ⟨rfl, by intro _; rfl⟩
        regs := ⟨by intro h; rfl, by decide⟩
        panel := panel_of _ rfl }
  · intro _ _
    constructor
    · intro h; cases h
    · rintro ⟨w, k, issued, h, ht, -⟩
      cases h
      exact absurd ht (by decide)

/-- The last row, with a line buffer whose last element is unwritten, has bits [7:4] set, or names an
unwritten entry. -/
theorem witness_DispatcherFaults_elements :
    (∀ e ∈ ([[], [(3, 0x10)], [(3, 0x04)]] : List (Memory Byte)),
      let s : State := { overrun with
        phase := .exec (BitVec.ofNat 32 (0x01000000 + (1 : Half).toNat)) 0 false
        linebuf := [(0, 0), (1, 1), (2, 2)] ++ e }
      s.readyHeld = none ∧ s.turns = [.d] ∧ s.faulted = false ∧ s.streamOpen = false ∧ s.busy = true ∧
      (1 : Half).toNat < s.cfg.srcH ∧ 3 < s.cfg.lineW ∧ (out (step s)).map (·.busy) = some true ∧
      ∀ j, j < 3 → s.Maps j) ∧
    (0x10 : Byte).extractLsb' 4 4 ≠ 0 ∧ (0x04 : Byte).extractLsb' 4 4 = 0 ∧
    overrun.palette.read ((0x04 : Byte).extractLsb' 0 4).toNat = none := by
  refine ⟨?_, by decide, by decide, by decide⟩
  intro e he
  simp only [List.mem_cons, List.not_mem_nil, or_false] at he
  rcases he with rfl | rfl | rfl <;>
    (refine ⟨by decide, rfl, rfl, rfl, rfl, by decide, by decide, by decide, ?_⟩
     intro j h
     interval_cases j
     · exact ⟨0, 0xFFFF, rfl, rfl, rfl⟩
     · exact ⟨1, 0xAD55, rfl, rfl, rfl⟩
     · exact ⟨2, 0x52AA, rfl, rfl, rfl⟩)

/-- The last cell, the full panel and the last row. -/
theorem witness_TimingFigures :
    (let s := { drawing with
                winCol := (7 : Half) ++ (0 : Half), winRow := (5 : Half) ++ (0 : Half)
                fillXY := (0 : Half) ++ (0 : Half), fillWH := (6 : Half) ++ (8 : Half) }
     s.OwnedByC ∧ s.streamOpen = false ∧ (7 : Half).toNat < s.cfg.panelW ∧
     (5 : Half).toNat < s.cfg.panelH ∧ (0 : Half).toNat + (8 : Half).toNat ≤ s.cfg.panelW ∧
     (0 : Half).toNat + (6 : Half).toNat ≤ s.cfg.panelH ∧ s.busy = true ∧
     ((1 : Word).extractLsb' 0 16).toNat < s.cfg.srcH) ∧
    (∀ i, i < drawing.cfg.lineW → ∃ e c, drawing.linebuf.read i = some e ∧ e.extractLsb' 4 4 = 0 ∧
      drawing.palette.read (e.extractLsb' 0 4).toNat = some c) ∧
    ({ drawing with streamOpen := true } : State).OwnedByC := by
  refine ⟨by decide, ?_, by decide⟩
  intro i h
  obtain ⟨e, he, hz, hp⟩ := drawing_maps i h
  have hi : i < 4 := h
  exact ⟨e, _, he, hz, by rw [hp]; exact List.getElem?_eq_getElem (by simpa using hi)⟩

end Sys2Proof.Tests
end

section
namespace Sys2Proof.Machine

/-! ## What an action can do

SUPPORT. A step is one action of one agent. `RuleStep` lists what the own rule of an access or of a
dispatcher operation writes, `Act` what the action does with it, and `StepRule.ensures` what an agent's
turn adds before its action. Each later proof about a step is a case split over these. -/

/-! ### The rules -/

/-- What the rule of an access or of a dispatcher operation can leave when none of its checks fails,
one constructor for each kind of write, with the checks it has passed. -/
inductive RuleStep (s : State) : State → Prop
  | keep : RuleStep s s
  | busy (b : Bool) : RuleStep s { s with busy := b }
  | winCol (v : Word) : RuleStep s { s with winCol := v }
  | winRow (v : Word) : RuleStep s { s with winRow := v }
  | fillColor (c : Half) : RuleStep s { s with fillColor := zextHalf c }
  | fillXY (v : Word) : RuleStep s { s with fillXY := v }
  | fillWH (v : Word) : RuleStep s { s with fillWH := v }
  | window (cs ce rs re : Half) : RuleStep s (s.stageWindow cs ce rs re)
  | stream (b : Bool) : RuleStep s { s with streamOpen := b }
  | backlight (b : Bool) : RuleStep s { s with bl := b }
  | element (i : BitVec 10) (e : Byte) (hi : i.toNat < s.cfg.lineW) (hfree : s.busy = false) :
      RuleStep s { s with linebuf := s.linebuf.write i.toNat e }
  | entry (k : BitVec 4) (c : Half) (hopen : s.palLocked = false) :
      RuleStep s { s with palette := s.palette.write k.toNat c }
  | pushP2C (v : Word) (hready : s.sendReady = true) :
      RuleStep s
        { s with p2c := some v, busy := s.busy || commandTag v = 0x01#8, palLocked := true }
  | popP2C (hfull : s.p2c.isSome = true) : RuleStep s { s with p2c := none }
  | pushC2P (v : Word) (hempty : s.c2p = none) : RuleStep s { s with c2p := some v }
  | popC2P (hfull : s.c2p.isSome = true) : RuleStep s { s with c2p := none }
  | enable (hclosed : s.streamOpen = false) :
      RuleStep s { s with dispatchEn := true, phase := if s.phase = .off then .waitCmd else s.phase }

/-- A rule's effect in state `s` is a `RuleStep`; it waits for a condition only if `waits` and queues
events only if `links`, and no entry that it queues completes an operation by itself. -/
def Effect.Fits (s : State) (waits links : Prop) : Effect → Prop
  | .done s' _ => RuleStep s s'
  | .hold => waits
  | .start s' q => RuleStep s s' ∧ links ∧ q.all (·.ends = none) = true
  | .trap _ => True

section Rules

variable {s : State} {waits links : Prop}

theorem ownerGuard_fits {off : Half} {body : State → Effect} (h : (body s).Fits s waits links) :
    (ownerGuard off body s).Fits s waits links := by
  cases hd : s.dispatchEn with
  | false => rwa [ownerGuard_of_owned hd]
  | true => rw [ownerGuard_of_dispatcher hd]; trivial

theorem streamGuard_fits {off : Half} {body : State → Effect} (h : (body s).Fits s waits links) :
    (streamGuard off body s).Fits s waits links := by
  cases hd : s.streamOpen with
  | false => rwa [streamGuard_of_closed hd]
  | true => rw [streamGuard_of_open hd]; trivial

theorem linebufIndexGuard_fits {i : BitVec 10} {body : State → Effect}
    (h : i.toNat < s.cfg.lineW → (body s).Fits s waits links) :
    (linebufIndexGuard i body s).Fits s waits links := by
  unfold linebufIndexGuard
  split
  · trivial
  · exact h (by omega)

/-! The link operations (40_panellink.md R151 to R169). -/

theorem linkInit_fits (hl : links) : (linkInit s).Fits s waits links :=
  streamGuard_fits ⟨.window .., hl, rfl⟩

theorem linkWinApply_fits (hl : links) : (linkWinApply s).Fits s waits links := by
  refine streamGuard_fits ?_
  split
  · trivial
  · exact ⟨.keep, hl, windowEvents_ends ..⟩

theorem linkSetAddress_fits (v : Word) (hl : links) : (linkSetAddress v s).Fits s waits links := by
  refine streamGuard_fits ?_
  split
  · trivial
  · exact ⟨.window .., hl, windowEvents_ends ..⟩

theorem linkStreamBegin_fits (hl : links) : (linkStreamBegin s).Fits s waits links :=
  streamGuard_fits ⟨.stream true, hl, rfl⟩

theorem linkPixel_fits (v : Word) (hl : links) : (linkPixel v s).Fits s waits links := by
  unfold linkPixel
  split
  · exact ⟨.keep, hl, rfl⟩
  · trivial

theorem linkStreamEnd_fits (hl : links) : (linkStreamEnd s).Fits s waits links := by
  unfold linkStreamEnd
  split
  · exact ⟨.stream false, hl, rfl⟩
  · trivial

theorem linkFillGo_fits (hl : links) : (linkFillGo s).Fits s waits links := by
  refine streamGuard_fits ?_
  dsimp only
  split
  · trivial
  · split
    · trivial
    · exact ⟨.window .., hl, by rw [List.all_append, windowEvents_ends, streamEvents_ends]; rfl⟩

theorem linkInvert_fits (v : Word) (hl : links) : (linkInvert v s).Fits s waits links :=
  streamGuard_fits ⟨.keep, hl, frame_ends ..⟩

theorem linkPower_fits (v : Word) (hl : links) : (linkPower v s).Fits s waits links := by
  refine streamGuard_fits ⟨.keep, hl, ?_⟩
  split
  · rw [List.all_append, frame_ends]
    split <;> rfl
  · rw [List.all_append, frame_ends]
    rfl

theorem linkBacklight_fits (v : Word) (hl : links) : (linkBacklight v s).Fits s waits links :=
  ⟨.backlight _, hl, rfl⟩

theorem linkIdle_fits (v : Word) (hl : links) : (linkIdle v s).Fits s waits links :=
  streamGuard_fits ⟨.keep, hl, frame_ends ..⟩

theorem linkDrawLine_fits (v : Word) (hl : links) : (linkDrawLine v s).Fits s waits links := by
  refine streamGuard_fits ?_
  dsimp only
  split
  · trivial
  · split
    · trivial
    · split
      · trivial
      · exact ⟨.window .., hl, by rw [List.all_append, windowEvents_ends, streamEvents_ends]; rfl⟩

/-! Busy, control and the shared storage (43_busy_status.md R264 to R275, 42_mailbox.md). -/

theorem busyClear_fits (v : Word) : (busyClear v s).Fits s waits links := by
  unfold busyClear
  split
  · exact RuleStep.busy false
  · exact RuleStep.keep

theorem ctrlWrite_fits (v : Word) : (ctrlWrite v s).Fits s waits links := by
  unfold ctrlWrite
  split
  · split
    · trivial
    · exact RuleStep.enable (by simpa using ‹¬ s.streamOpen = true›)
  · exact RuleStep.keep

theorem paletteWrite_fits (k : BitVec 4) (v : Word) : (paletteWrite k v s).Fits s waits links := by
  unfold paletteWrite
  split
  · trivial
  · exact RuleStep.entry k _ (by simpa using ‹¬ s.palLocked = true›)

theorem paletteRead_fits (k : BitVec 4) : (paletteRead k s).Fits s waits links := by
  unfold paletteRead
  split
  · trivial
  · exact RuleStep.keep

theorem linebufRead_fits (i : BitVec 10) : (linebufRead i s).Fits s waits links := by
  unfold linebufRead
  split
  · trivial
  · exact RuleStep.keep

theorem linebufWriteP_fits (i : BitVec 10) (v : Word) :
    (linebufWriteP i v s).Fits s waits links := by
  refine linebufIndexGuard_fits fun hi => ?_
  split
  · trivial
  · exact RuleStep.element i _ hi (by simpa using ‹¬ s.busy = true›)

theorem linebufReadP_fits (i : BitVec 10) : (linebufReadP i s).Fits s waits links := by
  refine linebufIndexGuard_fits fun _ => ?_
  split
  · trivial
  · exact linebufRead_fits i

theorem linebufReadC_fits (i : BitVec 10) : (linebufReadC i s).Fits s waits links := by
  refine linebufIndexGuard_fits fun _ => ownerGuard_fits ?_
  split
  · trivial
  · exact linebufRead_fits i

theorem linebufWriteC_fits (i : BitVec 10) : (linebufWriteC i s).Fits s waits links :=
  linebufIndexGuard_fits fun _ => ownerGuard_fits trivial

theorem pushP2C_fits (v : Word) (hw : waits) : (pushP2C v s).Fits s waits links := by
  unfold pushP2C
  split
  · exact RuleStep.pushP2C v ‹_›
  · exact hw

theorem popP2C_fits (hw : waits) : (popP2C s).Fits s waits links := by
  unfold popP2C
  split
  · exact RuleStep.popP2C (by simp [*])
  · exact hw

theorem pushC2P_fits (v : Word) (hw : waits) : (pushC2P v s).Fits s waits links := by
  unfold pushC2P
  split
  · exact RuleStep.pushC2P v ‹_›
  · exact hw

theorem popC2P_fits (hw : waits) : (popC2P s).Fits s waits links := by
  unfold popC2P
  split
  · exact RuleStep.popC2P (by simp [*])
  · exact hw

/-- The operations of the dispatcher queue events, and none waits for a condition. -/
theorem dispatcherOp_fits (off : Half) (v : Word) : (dispatcherOp off v s).Fits s False True := by
  unfold dispatcherOp
  split
  · exact busyClear_fits v
  · exact linkSetAddress_fits v trivial
  · exact linkStreamBegin_fits trivial
  · exact linkPixel_fits v trivial
  · exact linkStreamEnd_fits trivial
  · exact linkInvert_fits v trivial
  · exact linkIdle_fits v trivial
  · exact linkDrawLine_fits v trivial
  · exact RuleStep.keep

end Rules

/-! ### The actions -/

/-- The holds that `State.HoldsSound` allows on a port. -/
def Hold.Legal : PortId → Hold → Prop
  | .p, h => h = .read .rPMboxRx ∨ ∃ v, h = .write (.wPMboxTx v)
  | .c, h => h = .read .rCMboxRx ∨ (∃ v, h = .write (.wCMboxTx v)) ∨ h = .link

/-- What one action of an agent does: an access, decoded or refused; a command word that D pops; an
operation that D issues; what the panel makes of an event. -/
inductive Act (s : State) : State → Prop
  /-- nothing -/
  | idle : Act s s
  /-- an access completes and changes nothing else -/
  | answer (pid : PortId) (ans : Option Word) (hfree : (s.port pid).hold = none) :
      Act s (s.complete pid ans)
  /-- an access completes by its own rule -/
  | done {s' : State} (pid : PortId) (ans : Option Word) (hfree : (s.port pid).hold = none)
      (hf : s.faulted = false) (hr : RuleStep s s') : Act s (s'.complete pid ans)
  /-- an access is held for its condition -/
  | wait (pid : PortId) (h : Hold) (hfree : (s.port pid).hold = none) (hf : s.faulted = false)
      (hlegal : h.Legal pid) : Act s (s.holdPort pid h)
  /-- an access of C starts a link operation -/
  | start {s' : State} (q : QItem) (r : List QItem) (hfree : s.portC.hold = none)
      (hf : s.faulted = false) (hq : (q :: r).all (·.ends = none) = true) (hr : RuleStep s s') :
      Act s ((s'.enqueue (markEnd .port (q :: r))).holdPort .c .link)
  /-- a check of an access fails -/
  | trap (pid : PortId) (t : Trap) (ans : Option Word) (hfree : (s.port pid).hold = none)
      (hf : s.faulted = false) : Act s ((s.raiseFault t pid.bit false).complete pid ans)
  /-- D pops a named command word -/
  | take (w : Word) : Act s (s.takeCommand w (commandOps s.cfg w))
  /-- D pops a reserved command word -/
  | reserved (hready : s.dispatcherReady = true) :
      Act s (({ s with p2c := none } : State).raiseFault ⟨.badCommand, 0x0008⟩ true true)
  /-- an operation of D completes at once -/
  | opDone {s' : State} {w : Word} {k : Nat} (hp : s.phase = .exec w k false)
      (hf : s.faulted = false) (hr : RuleStep s s') : Act s s'.dispatcherDone
  /-- an operation of D queues events -/
  | opStart {s' : State} {w : Word} {k : Nat} {off : Half} {v : Word} (q : QItem) (r : List QItem)
      (hp : s.phase = .exec w k false) (hf : s.faulted = false)
      (hop : (commandOps s.cfg w)[k]? = some (off, v)) (hoff : off ≠ 0x0004)
      (hq : (q :: r).all (·.ends = none) = true) (hr : RuleStep s s') :
      Act s { s'.enqueue (markEnd .disp (q :: r)) with phase := .exec w k true }
  /-- a check of an operation of D fails -/
  | opTrap {w : Word} {k : Nat} (t : Trap) (hp : s.phase = .exec w k false)
      (hf : s.faulted = false) : Act s (s.raiseFault t true true)
  /-- D finds no operation left -/
  | opEnd {w : Word} {k : Nat} (hp : s.phase = .exec w k false) (hf : s.faulted = false)
      (hop : (commandOps s.cfg w)[k]? = none) : Act s { s with phase := .waitCmd }
  /-- the panel takes SWRESET -/
  | swreset : Act s { s with panel := s.panel.command fun k => some (resetKnown s.cfg k) }
  /-- the panel takes another wire command, which leaves its frame memory alone -/
  | wire (f : PanelRec → PanelRec) (hgram : ∀ r, (f r).gram = r.gram) : Act s (s.wireCommand f)
  /-- the panel takes a byte that names no wire command -/
  | unknownByte : Act s { s with panel := s.panel.unknownCommand }
  /-- the panel takes another event -/
  | line (ev : WireEvent) : Act s { s with panel := s.panel.lineEvent s.cfg ev }

section Actions

variable {s : State} {i : Instr}

/-- An access whose rule fits the port. -/
theorem access_act {pid : PortId} {isRead : Bool} {body : State → Effect}
    (hb : (body s).Fits s ((if isRead then Hold.read i else Hold.write i).Legal pid) (pid = .c)) :
    Act s (s.access pid isRead i body) := by
  rcases State.access_cases s pid isRead i body with
    ⟨-, e⟩ | ⟨hfree, -, e⟩ | ⟨hfree, hf, ⟨s', v, hs, e⟩ | ⟨hs, e⟩ | ⟨s', hs, e⟩ | ⟨s', q, r, hs, e⟩ |
      ⟨t, hs, e⟩⟩ <;> rw [e]
  · exact .idle
  · exact .answer pid _ hfree
  · rw [hs] at hb
    exact .done pid _ hfree hf hb
  · rw [hs] at hb
    exact .wait pid _ hfree hf hb
  · rw [hs] at hb
    exact .done pid _ hfree hf hb.1
  · rw [hs] at hb
    obtain ⟨hr, rfl, hq⟩ := hb
    exact .start q r hfree hf hq hr
  · exact .trap pid t _ hfree hf

theorem statusRead_act (pid : PortId) (v : Word) : Act s (s.statusRead pid v) := by
  unfold State.statusRead
  split
  · exact .idle
  · exact .answer pid _ (by simpa using ‹¬ (s.port pid).hold.isSome = true›)

theorem ignoredWrite_act (pid : PortId) : Act s (s.ignoredWrite pid i) := access_act RuleStep.keep

theorem zeroRead_act (pid : PortId) : Act s (s.zeroRead pid i) := access_act RuleStep.keep

theorem linkRead_act (off : Half) (f : State → Word) : Act s (s.linkRead off i f) :=
  access_act (ownerGuard_fits RuleStep.keep)

theorem linkWrite_act (off : Half) {body : State → Effect}
    (hb : (body s).Fits s ((Hold.write i).Legal .c) (PortId.c = .c)) :
    Act s (s.linkWrite off i body) := access_act (ownerGuard_fits hb)

/-- A refused access, on a port that accepts accesses. -/
theorem refuseAccess_act {pid : PortId} (a : Access) (e : DecodeError)
    (hfree : (s.port pid).hold = none) : Act s (s.refuseAccess pid a e) := by
  unfold State.refuseAccess
  split
  · exact .answer pid _ hfree
  · exact .trap pid _ _ hfree (by simpa using ‹¬ s.faulted = true›)

/-- A command word with the operations that R291 gives it. -/
theorem takeCommand_act {w : Word} {ops : List (Half × Word)} (h : commandOps s.cfg w = ops) :
    Act s (s.takeCommand w ops) := h ▸ .take w

/-- The operations of the four named command words (44_dispatcher.md R291). -/
theorem commandOps_nop (cfg : Params) : commandOps cfg 0x00000000 = nopOps := rfl

theorem commandOps_drawLine (cfg : Params) (row : Half) :
    commandOps cfg (drawLineWord row) = drawLineOps row := by
  simp [commandOps, decodeCommand_drawLineWord]

theorem commandOps_setIdle (cfg : Params) (invert idle : Bool) :
    commandOps cfg (setIdleWord invert idle) = setIdleOps invert idle := by
  simp [commandOps, decodeCommand_setIdleWord]

theorem commandOps_setPixel (cfg : Params) (c : Half) :
    commandOps cfg (setPixelWord c) = setPixelOps cfg c := by
  simp [commandOps, decodeCommand_setPixelWord]

/-- Every operation's meaning is an action. -/
theorem exec_act (i : Instr) (s : State) : ∃ t, exec i s = .next t ∧ Act s t := by
  cases i
  case rPStatus | rPFault | rCStatus | rCFault => exact ⟨_, rfl, statusRead_act ..⟩
  case wPStatus | wPMboxRx | wPFault | wCStatus | wCMboxRx | wCFault =>
    exact ⟨_, rfl, ignoredWrite_act _⟩
  case rPMboxTx | rCMboxTx => exact ⟨_, rfl, zeroRead_act _⟩
  case rPBusy | rCBusyClr | rCCtrl | rCBacklight => exact ⟨_, rfl, access_act RuleStep.keep⟩
  case wPBusy v =>
    refine ⟨_, rfl, access_act ?_⟩
    show RuleStep s _
    split
    · exact .busy true
    · exact .keep
  case wCBusyClr v => exact ⟨_, rfl, access_act (ownerGuard_fits (busyClear_fits v))⟩
  case wCCtrl v => exact ⟨_, rfl, access_act (ctrlWrite_fits v)⟩
  case wPMboxTx v => exact ⟨_, rfl, access_act (pushP2C_fits v (.inr ⟨v, rfl⟩))⟩
  case rPMboxRx => exact ⟨_, rfl, access_act (popC2P_fits (.inl rfl))⟩
  case rCMboxRx => exact ⟨_, rfl, access_act (ownerGuard_fits (popP2C_fits (.inl rfl)))⟩
  case wCMboxTx v => exact ⟨_, rfl, access_act (pushC2P_fits v (.inr (.inl ⟨v, rfl⟩)))⟩
  case rPPalette k | rCPalette k => exact ⟨_, rfl, access_act (paletteRead_fits k)⟩
  case wPPalette k v | wCPalette k v => exact ⟨_, rfl, access_act (paletteWrite_fits k v)⟩
  case rPLinebuf i => exact ⟨_, rfl, access_act (linebufReadP_fits i)⟩
  case wPLinebuf i v => exact ⟨_, rfl, access_act (linebufWriteP_fits i v)⟩
  case rCLinebuf i => exact ⟨_, rfl, access_act (linebufReadC_fits i)⟩
  case wCLinebuf i v => exact ⟨_, rfl, access_act (linebufWriteC_fits i)⟩
  case rCInit | rCWinCol | rCWinRow | rCWinApply | rCSetAddress | rCStreamBegin | rCPixel |
      rCStreamEnd | rCFillColor | rCFillXY | rCFillWH | rCFillGo | rCInvert | rCPower | rCIdle |
      rCDrawLine =>
    exact ⟨_, rfl, linkRead_act ..⟩
  case wCWinCol v => exact ⟨_, rfl, linkWrite_act _ (RuleStep.winCol v)⟩
  case wCWinRow v => exact ⟨_, rfl, linkWrite_act _ (RuleStep.winRow v)⟩
  case wCFillColor v => exact ⟨_, rfl, linkWrite_act _ (RuleStep.fillColor (lowHalf v))⟩
  case wCFillXY v => exact ⟨_, rfl, linkWrite_act _ (RuleStep.fillXY v)⟩
  case wCFillWH v => exact ⟨_, rfl, linkWrite_act _ (RuleStep.fillWH v)⟩
  case wCInit v => exact ⟨_, rfl, linkWrite_act _ (linkInit_fits rfl)⟩
  case wCWinApply v => exact ⟨_, rfl, linkWrite_act _ (linkWinApply_fits rfl)⟩
  case wCSetAddress v => exact ⟨_, rfl, linkWrite_act _ (linkSetAddress_fits v rfl)⟩
  case wCStreamBegin v => exact ⟨_, rfl, linkWrite_act _ (linkStreamBegin_fits rfl)⟩
  case wCPixel v => exact ⟨_, rfl, linkWrite_act _ (linkPixel_fits v rfl)⟩
  case wCStreamEnd v => exact ⟨_, rfl, linkWrite_act _ (linkStreamEnd_fits rfl)⟩
  case wCFillGo v => exact ⟨_, rfl, linkWrite_act _ (linkFillGo_fits rfl)⟩
  case wCInvert v => exact ⟨_, rfl, linkWrite_act _ (linkInvert_fits v rfl)⟩
  case wCPower v => exact ⟨_, rfl, linkWrite_act _ (linkPower_fits v rfl)⟩
  case wCBacklight v => exact ⟨_, rfl, access_act (linkBacklight_fits v rfl)⟩
  case wCIdle v => exact ⟨_, rfl, linkWrite_act _ (linkIdle_fits v rfl)⟩
  case wCDrawLine v => exact ⟨_, rfl, linkWrite_act _ (linkDrawLine_fits v rfl)⟩
  case nop => exact ⟨_, rfl, takeCommand_act (commandOps_nop _)⟩
  case drawLine row => exact ⟨_, rfl, takeCommand_act (commandOps_drawLine _ row)⟩
  case setIdle invert idle => exact ⟨_, rfl, takeCommand_act (commandOps_setIdle _ invert idle)⟩
  case setPixel c => exact ⟨_, rfl, takeCommand_act (commandOps_setPixel _ c)⟩
  case reservedCommand w =>
    refine ⟨_, rfl, ?_⟩
    split
    · exact .reserved ‹_›
    · exact .idle
  case swreset => exact ⟨_, rfl, .swreset⟩
  case slpin | slpout | noron | invoff | invon | dispoff | dispon | caset | raset | ramwr | madctl |
      idmoff | idmon | colmod =>
    exact ⟨_, rfl, .wire _ fun _ => rfl⟩

/-- What an operation's meaning answers is an action. -/
theorem act_of_exec {t : State} (h : exec i s = .next t) : Act s t := by
  obtain ⟨t', ht', hact⟩ := exec_act i s
  rw [ht'] at h
  cases h
  exact hact

/-- Only an operation at another offset than C_BUSY_CLR queues events. -/
theorem dispatcherOp_off_ne {off : Half} {v : Word} {s' : State} {q : List QItem}
    (h : dispatcherOp off v s = .start s' q) : off ≠ 0x0004 := by
  rintro rfl
  cases h

/-- A step of D in EXEC(w, k) is an action. -/
theorem dispatcherExec_act {w : Word} {k : Nat} {issued : Bool} (hf : s.faulted = false)
    (hp : s.phase = .exec w k issued) : Act s (s.dispatcherExec w k issued) := by
  cases issued with
  | true => exact .idle
  | false =>
    unfold State.dispatcherExec
    simp only [Bool.false_eq_true, if_false]
    cases hop : (commandOps s.cfg w)[k]? with
    | none => exact .opEnd hp hf hop
    | some op =>
      obtain ⟨off, v⟩ := op
      have hfit := dispatcherOp_fits (s := s) off v
      show Act s (s.dispatcherIssue w k off v)
      unfold State.dispatcherIssue
      cases hs : dispatcherOp off v s with
      | done s' _ => rw [hs] at hfit; exact .opDone hp hf hfit
      | hold => exact .idle
      | start s' q =>
        rw [hs] at hfit
        obtain ⟨hr, -, hq⟩ := hfit
        cases q with
        | nil => exact .opDone hp hf hr
        | cons q r => exact .opStart q r hp hf hop (dispatcherOp_off_ne hs) hq hr
      | trap t => exact .opTrap t hp hf

end Actions

end Sys2Proof.Machine
end

section
namespace Sys2Proof.Machine

/-! ## What a step can do -/

/-- What an agent's turn does before its action keeps `K`, and every action takes `K` to `I`. With
`K = I` this is an invariant of every step but the block reset. -/
structure StepRule (K I : State → Prop) : Prop where
  /-- the turn is used up -/
  turn : ∀ s ts, K s → K { s with turns := ts }
  /-- a held access whose condition is true leaves its port to be performed -/
  release : ∀ s pid i, s.readyHeld = some (pid, i) → K s → K (s.release pid)
  /-- a host's next access leaves its list -/
  issue : ∀ s pid rest, (s.port pid).hold = none → K s →
    K (s.setPort pid { s.port pid with reqs := rest })
  /-- E performs the head of the op queue -/
  perform : ∀ s q rest, s.faulted = false → s.opQueue = q :: rest → K s →
    K (({ s with opQueue := rest } : State).perform q)
  /-- the agent acts -/
  act : ∀ s t, K s → Act s t → I t

/-- What a host issues at its turn: the head of its list, on a port that accepts accesses. -/
theorem State.nextAccess_eq_some {s s' : State} {pid : PortId} {a : Access}
    (h : s.nextAccess pid = some (a, s')) :
    (s.port pid).hold = none ∧
      ∃ rest, s' = s.setPort pid { s.port pid with reqs := rest } := by
  unfold State.nextAccess at h
  split at h
  · cases h
    exact ⟨‹_›, _, rfl⟩
  · cases h
  · cases h

/-- A host's turn changes only the list of the port it issues on. -/
theorem State.setPort_reqs_hold (s : State) (pid : PortId) (rest : List Access) :
    ((s.setPort pid { s.port pid with reqs := rest }).port pid).hold = (s.port pid).hold := by
  cases pid <;> rfl

namespace StepRule

variable {K I : State → Prop} {s t : State}

theorem idle (R : StepRule K I) (h : K s) : I s := R.act s s h .idle

theorem ofExec (R : StepRule K I) {i : Instr} (h : K s) (he : exec i s = .next t) : I t :=
  R.act s t h (act_of_exec he)

/-- The turn of a host. -/
theorem ofHost (R : StepRule K I) (pid : PortId) (h : K s) (hs : stepHost pid s = .next t) : I t := by
  rcases stepHost_cases pid s with ⟨-, e⟩ | ⟨a, s', hn, hcases⟩
  · rw [e] at hs
    cases hs
    exact R.idle h
  · obtain ⟨hfree, rest, rfl⟩ := State.nextAccess_eq_some hn
    have hK := R.issue s pid rest hfree h
    rcases hcases with ⟨i, -, e⟩ | ⟨e', -, e⟩ <;> rw [e] at hs
    · exact R.ofExec hK hs
    · cases hs
      exact R.act _ _ hK (refuseAccess_act a e' ((s.setPort_reqs_hold pid rest).trans hfree))

/-- The turn of the dispatcher. -/
theorem ofDispatcher (R : StepRule K I) (h : K s) (hs : stepDispatcher s = .next t) : I t := by
  rcases stepDispatcher_cases s with e | ⟨-, -, w, -, e⟩ | ⟨hf, w, k, issued, hp, e⟩ <;> rw [e] at hs
  · cases hs
    exact R.idle h
  · exact R.ofExec h hs
  · cases hs
    exact R.act _ _ h (dispatcherExec_act hf hp)

/-- The turn of the engine. -/
theorem ofEngine (R : StepRule K I) (h : K s) (hs : stepEngine s = .next t) : I t := by
  rcases stepEngine_cases s with ⟨-, e⟩ | ⟨q, s', hn, hcases⟩
  · rw [e] at hs
    cases hs
    exact R.idle h
  · rcases s.nextItem_cases with ⟨hnone, -⟩ | ⟨q', rest, hf, hq, hsome⟩
    · rw [hnone] at hn
      cases hn
    · rw [hsome] at hn
      cases hn
      have hK := R.perform s q rest hf hq h
      rcases hcases with ⟨b, i, -, -, e⟩ | ⟨b, e', -, -, e⟩ | ⟨-, e⟩ <;> rw [e] at hs
      · exact R.ofExec hK hs
      · cases hs
        refine R.act _ _ hK ?_
        simpa using Act.unknownByte (s := State.perform { s with opQueue := rest } q)
      · cases hs
        refine R.act _ _ hK ?_
        simpa using Act.line (s := State.perform { s with opQueue := rest } q) q.ev

/-- From `K` every step leads to `I`, if a block reset does. -/
theorem ensures (R : StepRule K I) (h : K s) (hs : step s = .next t)
    (hreset : s.readyHeld = none → s.turns.head? = some .reset →
      I ({ s with turns := s.turns.tail } : State).blockReset) : I t := by
  rcases step_cases s with ⟨pid, i, hready, e⟩ | ⟨-, -, e⟩ | ⟨turn, rest, hready, hturns, e⟩ <;>
    rw [e] at hs
  · exact R.ofExec (R.release s pid i hready h) hs
  · cases hs
    exact R.idle h
  · have hK := R.turn s rest h
    cases turn with
    | p => exact R.ofHost .p hK hs
    | c => exact R.ofHost .c hK hs
    | d => exact R.ofDispatcher hK hs
    | e => exact R.ofEngine hK hs
    | reset =>
      cases hs
      simpa [hturns] using hreset hready (by simp [hturns])

/-- A step that is no block reset. -/
theorem ensures_of_no_reset (R : StepRule K I) (h : K s) (hs : step s = .next t)
    (hno : s.readyHeld ≠ none ∨ s.turns.head? ≠ some .reset) : I t :=
  R.ensures h hs fun hready hturn => by
    rcases hno with hno | hno
    · exact absurd hready hno
    · exact absurd hturn hno

end StepRule

/-! ## What a rule and an action leave unchanged -/

namespace RuleStep

variable {s s' : State}

theorem cfg (h : RuleStep s s') : s'.cfg = s.cfg := by cases h <;> rfl

theorem panel (h : RuleStep s s') : s'.panel = s.panel := by cases h <;> rfl

theorem initDone (h : RuleStep s s') : s'.initDone = s.initDone := by cases h <;> rfl

theorem portP (h : RuleStep s s') : s'.portP = s.portP := by cases h <;> rfl

theorem portC (h : RuleStep s s') : s'.portC = s.portC := by cases h <;> rfl

/-- PAL_LOCKED is only set (42_mailbox.md R244). -/
theorem palLocked (h : RuleStep s s') (hl : s.palLocked = true) : s'.palLocked = true := by
  cases h
  case pushP2C => rfl
  all_goals exact hl

/-- DISPATCH_EN is only set (43_busy_status.md R268). -/
theorem dispatchEn (h : RuleStep s s') (hd : s.dispatchEn = true) : s'.dispatchEn = true := by
  cases h
  case enable => rfl
  all_goals exact hd

/-- The palette is written only while it is not locked (43_busy_status.md R270). -/
theorem palette_of_locked (h : RuleStep s s') (hl : s.palLocked = true) : s'.palette = s.palette := by
  cases h
  case entry hopen => simp [hl] at hopen
  all_goals rfl

/-- The line buffer is written only while BUSY = 0 (43_busy_status.md R272). -/
theorem linebuf_of_busy (h : RuleStep s s') (hb : s.busy = true) : s'.linebuf = s.linebuf := by
  cases h
  case element hfree => simp [hb] at hfree
  all_goals rfl

end RuleStep
end Sys2Proof.Machine
end

section
namespace Sys2Proof.Machine

/-! ### Actions -/

/-- The registers and stores that an action leaves are those that one rule leaves. -/
theorem Act.rule {s t : State} (h : Act s t) :
    ∃ s', RuleStep s s' ∧ t.cfg = s'.cfg ∧ t.palLocked = s'.palLocked ∧
      t.dispatchEn = s'.dispatchEn ∧ t.initDone = s'.initDone ∧ t.linebuf = s'.linebuf ∧
      t.palette = s'.palette := by
  cases h
  case done hr | start hr | opDone hr | opStart hr => exact ⟨_, hr, by simp⟩
  all_goals exact ⟨s, .keep, by simp⟩

theorem Act.cfg {s t : State} (h : Act s t) : t.cfg = s.cfg := by
  obtain ⟨s', hr, hcfg, -⟩ := h.rule
  rw [hcfg, hr.cfg]

/-! ## The rules of the whole machine -/

/-- `x` has the parameters of `s`. -/
def State.SameCfg (s x : State) : Prop := x.cfg = s.cfg

/-- What of `s` only the block reset clears still stands in `x`. -/
def State.KeepsSticky (s x : State) : Prop :=
  (s.palLocked = true → x.palLocked = true) ∧ (s.dispatchEn = true → x.dispatchEn = true) ∧
  (s.initDone = true → x.initDone = true)

theorem sameCfg_rule (s : State) : StepRule s.SameCfg s.SameCfg where
  turn _ _ h := h
  release _ _ _ _ h := by simpa [State.SameCfg] using h
  issue _ _ _ _ h := by simpa [State.SameCfg] using h
  perform _ _ _ _ _ h := by simpa [State.SameCfg] using h
  act _ _ h hact := hact.cfg.trans h

theorem keepsSticky_rule (s : State) : StepRule s.KeepsSticky s.KeepsSticky where
  turn _ _ h := h
  release _ _ _ _ h := by simpa [State.KeepsSticky] using h
  issue _ _ _ _ h := by simpa [State.KeepsSticky] using h
  perform _ _ _ _ _ h := by
    obtain ⟨hlock, hen, hinit⟩ := h
    exact ⟨by simpa using hlock, by simpa using hen, fun hi => by simp [hinit hi]⟩
  act _ _ h hact := by
    obtain ⟨hlock, hen, hinit⟩ := h
    obtain ⟨x', hr, -, elock, een, einit, -⟩ := hact.rule
    exact ⟨fun hl => elock ▸ hr.palLocked (hlock hl), fun hd => een ▸ hr.dispatchEn (hen hd),
      fun hi => by rw [einit, hr.initDone, hinit hi]⟩

/-- Settles O45. The parameters are kept by every turn, action and reset; the three bits by every turn
and action. -/
theorem stickyBitsStay : Obligations.StickyBitsStay := by
  intro s t hs
  exact ⟨(sameCfg_rule s).ensures rfl hs fun _ _ => rfl,
    (keepsSticky_rule s).ensures_of_no_reset ⟨id, id, id⟩ hs⟩

/-- `x` has the shared stores of `s` with the two bits that guard them. -/
def State.SameStores (s x : State) : Prop :=
  x.palLocked = s.palLocked ∧ x.busy = s.busy ∧ x.palette = s.palette ∧ x.linebuf = s.linebuf

/-- The stores of `s` that its guards close are those of `x`. -/
def State.KeepsGuardedStores (s x : State) : Prop :=
  (s.palLocked = true → x.palette = s.palette) ∧ (s.busy = true → x.linebuf = s.linebuf)

theorem keepsGuardedStores_rule (s : State) : StepRule s.SameStores s.KeepsGuardedStores where
  turn _ _ h := h
  release _ _ _ _ h := by simpa [State.SameStores] using h
  issue _ _ _ _ h := by simpa [State.SameStores] using h
  perform _ _ _ _ _ h := by simpa [State.SameStores] using h
  act x _ h hact := by
    obtain ⟨hlock, hbusy, hpal, hbuf⟩ := h
    obtain ⟨x', hr, -, -, -, -, ebuf, epal⟩ := hact.rule
    exact ⟨fun hl => by rw [epal, hr.palette_of_locked (hlock.trans hl), hpal],
      fun hb => by rw [ebuf, hr.linebuf_of_busy (hbusy.trans hb), hbuf]⟩

/-- Settles O46. A turn changes neither the stores nor their guards before its action, and no action
writes a store that is guarded. -/
theorem lockedPaletteAndBusyLineBufferAreImmutable :
    Obligations.LockedPaletteAndBusyLineBufferAreImmutable := fun s _ hs hno =>
  (keepsGuardedStores_rule s).ensures_of_no_reset ⟨rfl, rfl, rfl, rfl⟩ hs hno

/-! ## The stores -/

/-! ### The frame memory -/

/-- The frame memory of a known panel has its canonical form. -/
def Panel.GramWf (p : Panel) : Prop := ∀ r, p.known = some r → r.gram.wf = true

theorem PanelRec.endContext_gram {r r' : PanelRec} (h : r.endContext = some r') :
    r'.gram = r.gram := by
  unfold PanelRec.endContext at h
  split at h
  · cases h; rfl
  · cases h; rfl
  · split at h <;> cases h
    rfl

theorem Panel.GramWf.atCommand {p : Panel} (h : p.GramWf) {r : PanelRec}
    (hr : p.atCommand = some r) : r.gram.wf = true := by
  unfold Panel.atCommand at hr
  split at hr
  · cases hr
  · rw [PanelRec.endContext_gram hr]
    exact h _ ‹_›

/-- A command that keeps or clears the frame memory keeps its form. -/
theorem Panel.GramWf.command {p : Panel} (h : p.GramWf) {f : Option PanelRec → Option PanelRec}
    (hf : ∀ k r', f k = some r' → r'.gram = [] ∨ ∃ r, k = some r ∧ r'.gram = r.gram) :
    (p.command f).GramWf := by
  unfold Panel.command
  split
  · exact h
  · intro r' hr'
    rcases hf _ r' hr' with e | ⟨r, hr, e⟩ <;> rw [e]
    · exact Memory.wf_nil
    · exact h.atCommand hr

/-- The reset defaults keep a known frame memory and leave an unknown one without cells (R204). -/
theorem resetKnown_gram (cfg : Params) (k : Option PanelRec) :
    (resetKnown cfg k).gram = [] ∨ ∃ r, k = some r ∧ (resetKnown cfg k).gram = r.gram := by
  cases k with
  | none => exact .inl rfl
  | some r => exact .inr ⟨r, rfl, rfl⟩

theorem PanelRec.advance_gram (r : PanelRec) : r.advance.gram = r.gram := by
  unfold PanelRec.advance
  split <;> rfl

theorem PanelRec.param_gram {cfg : Params} {r r' : PanelRec} {cmd : ParamCmd} {got : List Byte}
    {b : Byte} (h : r.param cfg cmd got b = some r') : r'.gram = r.gram := by
  unfold PanelRec.param at h
  split at h
  · unfold PanelRec.setColumns at h
    split at h <;> cases h
    rfl
  · unfold PanelRec.setRows at h
    split at h <;> cases h
    rfl
  all_goals cases h; rfl

theorem PanelRec.pixelByte_gram_wf {cfg : Params} {r r' : PanelRec} {pending : Option Byte}
    {b : Byte} (h : r.gram.wf = true) (hr : r.pixelByte cfg pending b = some r') :
    r'.gram.wf = true := by
  unfold PanelRec.pixelByte at hr
  split at hr
  · cases hr
  · cases pending with
    | none => cases hr; exact h
    | some hi =>
      cases hr
      rw [PanelRec.advance_gram]
      exact Memory.wf_write _ _ _ h

theorem PanelRec.data_gram_wf {cfg : Params} {r r' : PanelRec} {b : Byte} (h : r.gram.wf = true)
    (hr : r.data cfg b = some r') : r'.gram.wf = true := by
  unfold PanelRec.data at hr
  split at hr
  · cases hr; exact h
  · rw [PanelRec.param_gram hr]; exact h
  · exact PanelRec.pixelByte_gram_wf h hr

theorem Panel.GramWf.data {p : Panel} (h : p.GramWf) (cfg : Params) (b : Byte) :
    (p.data cfg b).GramWf := by
  unfold Panel.data
  split
  · exact h
  · intro r' hr'
    cases hk : p.known with
    | none => simp [hk] at hr'
    | some r => exact PanelRec.data_gram_wf (h r hk) (by simpa [hk] using hr')

theorem Panel.GramWf.rst {p : Panel} (h : p.GramWf) (cfg : Params) (l : Bool) :
    (p.rst cfg l).GramWf := by
  unfold Panel.rst
  split
  · exact h
  · split
    · intro r' hr'
      cases hr'
      rcases resetKnown_gram cfg p.known with e | ⟨r, hr, e⟩ <;> rw [e]
      · exact Memory.wf_nil
      · exact h r hr
    · exact h

theorem Panel.GramWf.lineEvent {p : Panel} (h : p.GramWf) (cfg : Params) (ev : WireEvent) :
    (p.lineEvent cfg ev).GramWf := by
  cases ev with
  | rst l => exact h.rst cfg l
  | dat b => exact h.data cfg b
  | cmd _ | bl _ | cs _ | wait _ => exact h

theorem Panel.GramWf.unknownCommand {p : Panel} (h : p.GramWf) : p.unknownCommand.GramWf := by
  unfold Panel.unknownCommand
  split
  · exact h
  · intro r hr
    cases hr

/-- Every action keeps the form of the frame memory. -/
theorem Act.gramWf {s t : State} (hact : Act s t) (h : s.panel.GramWf) : t.panel.GramWf := by
  cases hact
  case done hr | start hr | opDone hr | opStart hr => simpa [hr.panel] using h
  case swreset =>
    refine h.command fun k r' hr' => ?_
    cases hr'
    exact resetKnown_gram s.cfg k
  case wire f hgram =>
    refine h.command fun k r' hr' => ?_
    cases k with
    | none => cases hr'
    | some r => cases hr'; exact .inr ⟨r, rfl, hgram r⟩
  case unknownByte => exact h.unknownCommand
  case line ev => exact h.lineEvent s.cfg ev
  all_goals simpa using h

/-! ### Line buffer and palette -/

/-- A store in its canonical form whose indices are all below `n`. -/
def Memory.WfBelow {α : Type} (n : Nat) (m : Memory α) : Prop :=
  m.wf = true ∧ ∀ a v, m.read a = some v → a < n

theorem Memory.WfBelow.write {α : Type} {n a : Nat} {m : Memory α} (h : m.WfBelow n) (v : α)
    (ha : a < n) : (m.write a v).WfBelow n := by
  obtain ⟨hwf, hread⟩ := h
  refine ⟨Memory.wf_write m a v hwf, fun b w hb => ?_⟩
  rw [Memory.read_write] at hb
  split at hb
  · exact ‹a = b› ▸ ha
  · exact hread b w hb

/-- The two buffers list what exists (10_state.md R33, R34). -/
def State.BuffersWf (s : State) : Prop :=
  s.linebuf.WfBelow s.cfg.lineW ∧ s.palette.WfBelow 16

theorem State.storesWf_iff (s : State) : s.StoresWf ↔ s.BuffersWf ∧ s.panel.GramWf := by
  constructor
  · rintro ⟨hl, hp, hlr, hpr, hg⟩
    exact ⟨⟨⟨hl, hlr⟩, hp, hpr⟩, hg⟩
  · rintro ⟨⟨⟨hl, hlr⟩, hp, hpr⟩, hg⟩
    exact ⟨hl, hp, hlr, hpr, hg⟩

/-- A rule writes only elements below LINE_W and entries of a four-bit index. -/
theorem RuleStep.buffersWf {s s' : State} (hr : RuleStep s s') (h : s.BuffersWf) :
    s'.BuffersWf := by
  obtain ⟨hbuf, hpal⟩ := h
  cases hr
  case element i e hi _ => exact ⟨hbuf.write e hi, hpal⟩
  case entry k c _ => exact ⟨hbuf, hpal.write c k.isLt⟩
  all_goals exact ⟨hbuf, hpal⟩

theorem Act.buffersWf {s t : State} (hact : Act s t) (h : s.BuffersWf) : t.BuffersWf := by
  obtain ⟨s', hr, hcfg, -, -, -, hbuf, hpal⟩ := hact.rule
  unfold State.BuffersWf
  rw [hcfg, hbuf, hpal]
  exact hr.buffersWf h

theorem storesWf_rule : StepRule State.StoresWf State.StoresWf where
  turn _ _ h := h
  release _ _ _ _ h := by simpa [State.StoresWf] using h
  issue _ _ _ _ h := by simpa [State.StoresWf] using h
  perform _ _ _ _ _ h := by simpa [State.StoresWf] using h
  act s t h hact := by
    rw [State.storesWf_iff] at h ⊢
    exact ⟨hact.buffersWf h.1, hact.gramWf h.2⟩

/-- A block reset empties the buffers and leaves the panel alone. -/
theorem State.blockReset_storesWf {s : State} (h : s.panel.GramWf) : s.blockReset.StoresWf :=
  s.blockReset.storesWf_iff.2 ⟨⟨⟨rfl, by simp⟩, rfl, by simp⟩, h⟩

/-- Settles O49. A rule writes the buffers only at indices that exist, the panel writes its frame memory
only through `Memory.write`, and the reset empties the buffers. -/
theorem stepKeepsStores : Obligations.StepKeepsStores := fun s _ h hs =>
  storesWf_rule.ensures h hs fun _ _ => State.blockReset_storesWf (s.storesWf_iff.1 h).2

/-! ## The holds -/

namespace State.HoldsSound

variable {s : State}

theorem complete (h : s.HoldsSound) (pid : PortId) (ans : Option Word) :
    (s.complete pid ans).HoldsSound := by
  obtain ⟨hp, hc⟩ := h
  cases pid with
  | p => exact ⟨by simp, hc⟩
  | c => exact ⟨hp, by simp⟩

theorem release (h : s.HoldsSound) (pid : PortId) : (s.release pid).HoldsSound := by
  obtain ⟨hp, hc⟩ := h
  cases pid with
  | p => exact ⟨by simp, hc⟩
  | c => exact ⟨hp, by simp⟩

theorem holdPort (h : s.HoldsSound) {pid : PortId} {x : Hold} (hlegal : x.Legal pid) :
    (s.holdPort pid x).HoldsSound := by
  obtain ⟨hp, hc⟩ := h
  cases pid with
  | p => exact ⟨by rintro _ ⟨⟩; exact hlegal, hc⟩
  | c => exact ⟨hp, by rintro _ ⟨⟩; exact hlegal⟩

/-- The list of a host is no hold. -/
theorem setReqs (h : s.HoldsSound) (pid : PortId) (rest : List Access) :
    (s.setPort pid { s.port pid with reqs := rest }).HoldsSound := by
  cases pid <;> exact h

theorem operationDone (h : s.HoldsSound) (who : Option Issuer) :
    (s.operationDone who).HoldsSound := by
  rcases who with _ | _ | _
  · exact h
  · exact h.complete .c none
  · simpa [State.operationDone, State.HoldsSound] using h

theorem perform (h : s.HoldsSound) (q : QItem) : (s.perform q).HoldsSound := by
  unfold State.perform
  refine operationDone ?_ q.ends
  exact h

end State.HoldsSound

/-- A fault ends every held access (60_exceptions.md R311). -/
theorem State.raiseFault_holdsSound (s : State) (t : Trap) (port disp : Bool) :
    (s.raiseFault t port disp).HoldsSound := ⟨by simp, by simp⟩

/-- No rule writes a port. -/
theorem RuleStep.holdsSound {s s' : State} (hr : RuleStep s s') (h : s.HoldsSound) :
    s'.HoldsSound := by simpa [State.HoldsSound, hr.portP, hr.portC] using h

/-- Every action leaves legal holds: it takes one that is legal on its port, or gives holds up. -/
theorem Act.holdsSound {s t : State} (hact : Act s t) (h : s.HoldsSound) : t.HoldsSound := by
  cases hact
  case answer pid ans _ => exact h.complete pid ans
  case done pid ans _ _ hr => exact (hr.holdsSound h).complete pid ans
  case wait hlegal => exact h.holdPort hlegal
  case start q r _ _ _ hr =>
    have hs' := hr.holdsSound h
    exact State.HoldsSound.holdPort (s := State.enqueue _ _) hs' (.inr (.inr rfl))
  case trap pid t ans _ _ => exact (s.raiseFault_holdsSound t pid.bit false).complete pid ans
  case reserved => exact State.raiseFault_holdsSound _ _ true true
  case opTrap t _ _ => exact s.raiseFault_holdsSound t true true
  case opDone hr => simpa [State.HoldsSound] using hr.holdsSound h
  case opStart hr => exact hr.holdsSound h
  all_goals simpa [State.HoldsSound] using h

theorem holdsSound_rule : StepRule State.HoldsSound State.HoldsSound where
  turn _ _ h := h
  release _ pid _ _ h := h.release pid
  issue _ pid rest _ h := h.setReqs pid rest
  perform s q rest _ _ h :=
    State.HoldsSound.perform (s := { s with opQueue := rest }) h q
  act _ _ h hact := hact.holdsSound h

/-- Settles O51. An action holds a port only for its own mailbox accesses or, on the C-port, for the
engine; the reset frees both ports. -/
theorem stepKeepsHolds : Obligations.StepKeepsHolds := fun _ _ h hs =>
  holdsSound_rule.ensures h hs fun _ _ => ⟨by simp [Port.reset], by simp [Port.reset]⟩

/-! ## The dispatcher's phase -/

/-- The invariant reads only the phase, DISPATCH_EN and the parameters. -/
theorem State.PhaseSound.congr {s t : State} (h : s.PhaseSound) (hphase : t.phase = s.phase)
    (hen : t.dispatchEn = s.dispatchEn) (hcfg : t.cfg = s.cfg) : t.PhaseSound := by
  unfold State.PhaseSound
  rw [hphase, hen, hcfg]
  exact h

/-- A dispatcher that has left OFF is enabled. -/
theorem State.PhaseSound.enabled {s : State} (h : s.PhaseSound) (hp : s.phase ≠ .off) :
    s.dispatchEn = true := by
  obtain ⟨hoff, -⟩ := h
  rw [ne_eq, hoff] at hp
  simpa using hp

theorem State.phaseSound_of_waitCmd {s : State} (hp : s.phase = .waitCmd)
    (hen : s.dispatchEn = true) : s.PhaseSound := by
  refine ⟨by simp [hp, hen], fun w k issued h => ?_⟩
  rw [hp] at h
  cases h

theorem State.phaseSound_of_exec {s : State} {w : Word} {k : Nat} {issued : Bool} {o : Half × Word}
    (hp : s.phase = .exec w k issued) (hen : s.dispatchEn = true)
    (hop : (commandOps s.cfg w)[k]? = some o) (hoff : issued = true → o.1 ≠ 0x0004) :
    s.PhaseSound := by
  refine ⟨by simp [hp, hen], fun w' k' issued' h => ?_⟩
  rw [hp] at h
  cases h
  exact ⟨o, hop, hoff⟩

/-- The phase at operation `k` of `w`, or WAIT_CMD behind the last one (R290). -/
theorem State.phaseSound_of_execPhase {s : State} {w : Word} {k : Nat}
    (hp : s.phase = execPhase w (commandOps s.cfg w).length k) (hen : s.dispatchEn = true) :
    s.PhaseSound := by
  unfold execPhase at hp
  split at hp
  · exact State.phaseSound_of_waitCmd hp hen
  · exact State.phaseSound_of_exec hp hen (List.getElem?_eq_getElem (by omega)) (by simp)

/-- The enabling takes OFF to WAIT_CMD; no other rule writes the phase or DISPATCH_EN. -/
theorem RuleStep.phaseSound {s s' : State} (hr : RuleStep s s') (h : s.PhaseSound) :
    s'.PhaseSound := by
  cases hr
  case enable =>
    by_cases hp : s.phase = .off
    · exact State.phaseSound_of_waitCmd (by simp [hp]) rfl
    · exact h.congr (by simp [hp]) (h.enabled hp).symm rfl
  all_goals exact h

theorem State.PhaseSound.dispatcherDone {s : State} (h : s.PhaseSound) :
    s.dispatcherDone.PhaseSound := by
  cases hp : s.phase with
  | off | waitCmd => simpa [State.dispatcherDone, hp] using h
  | exec w k issued =>
    exact State.phaseSound_of_execPhase (w := w) (k := k + 1) (by simp [State.dispatcherDone, hp])
      (by simpa using h.enabled (by simp [hp]))

theorem State.PhaseSound.operationDone {s : State} (h : s.PhaseSound) (who : Option Issuer) :
    (s.operationDone who).PhaseSound := by
  rcases who with _ | _ | _
  · exact h
  · exact h.congr (by simp [State.operationDone]) (by simp) (by simp)
  · exact h.dispatcherDone

theorem State.PhaseSound.perform {s : State} (h : s.PhaseSound) (q : QItem) :
    (s.perform q).PhaseSound := by
  unfold State.perform
  refine State.PhaseSound.operationDone ?_ q.ends
  exact h

/-- D takes a command word only in WAIT_CMD. -/
theorem State.phase_of_dispatcherReady {s : State} (h : s.dispatcherReady = true) :
    s.phase = .waitCmd := by
  simp only [State.dispatcherReady, Bool.and_eq_true, decide_eq_true_eq] at h
  obtain ⟨⟨-, hp⟩, -⟩ := h
  exact hp

/-- The pop of a command word starts its first operation (R290). -/
theorem State.PhaseSound.takeCommand {s : State} (h : s.PhaseSound) (w : Word) :
    (s.takeCommand w (commandOps s.cfg w)).PhaseSound := by
  unfold State.takeCommand
  split
  · have hp : s.phase = .waitCmd := State.phase_of_dispatcherReady ‹_›
    exact State.phaseSound_of_execPhase rfl (h.enabled (by simp [hp]))
  · exact h

/-- Every action keeps the phase legal. -/
theorem Act.phaseSound {s t : State} (hact : Act s t) (h : s.PhaseSound) : t.PhaseSound := by
  cases hact
  case done hr => exact (hr.phaseSound h).congr (by simp) (by simp) (by simp)
  case start hr => exact (hr.phaseSound h).congr (by simp) (by simp) (by simp)
  case take w => exact h.takeCommand w
  case opDone hr => exact (hr.phaseSound h).dispatcherDone
  case opStart hp _ hop hoff _ hr =>
    have hen := hr.dispatchEn (h.enabled (by simp [hp]))
    exact State.phaseSound_of_exec rfl hen (by simpa [hr.cfg] using hop) fun _ => hoff
  case opEnd hp _ _ => exact State.phaseSound_of_waitCmd rfl (h.enabled (by simp [hp]))
  all_goals exact h.congr (by simp) (by simp) (by simp)

theorem phaseSound_rule : StepRule State.PhaseSound State.PhaseSound where
  turn _ _ h := h
  release _ _ _ _ h := h.congr (by simp) (by simp) (by simp)
  issue _ _ _ _ h := h.congr (by simp) (by simp) (by simp)
  perform s q rest _ _ h :=
    State.PhaseSound.perform (s := { s with opQueue := rest }) h q
  act _ _ h hact := hact.phaseSound h

/-- Settles O52. The enabling leaves OFF for good, a pop and a completed operation go to an operation of
the word or to WAIT_CMD, and the reset goes back to OFF. -/
theorem stepKeepsPhase : Obligations.StepKeepsPhase := fun _ _ h hs =>
  phaseSound_rule.ensures h hs fun _ _ => ⟨by simp, by simp⟩

end Sys2Proof.Machine
end

section
namespace Sys2Proof.Machine

/-! ## What one step runs

SUPPORT. The equations of `step`: the turn that is fetched, the access, command word or wire command it
names, and the held access that comes before any turn. -/

/-! ### The turns -/

/-- The turn of the host that is wired to a port (20_memory.md R71). -/
def PortId.turn : PortId → Turn
  | .p => .p
  | .c => .c

theorem stepTurn_host (pid : PortId) (s : State) : stepTurn pid.turn s = stepHost pid s := by
  cases pid <;> rfl

/-- The state in which the host of port `pid` has taken its turn and has still to issue `rest`. -/
def State.issued (s : State) (ts : List Turn) (pid : PortId) (rest : List Access) : State :=
  ({ s with turns := ts } : State).setPort pid { s.port pid with reqs := rest }

theorem State.issued_p (s : State) (ts : List Turn) (rest : List Access) :
    s.issued ts .p rest = { s with turns := ts, portP := { s.portP with reqs := rest } } := rfl

theorem State.issued_c (s : State) (ts : List Turn) (rest : List Access) :
    s.issued ts .c rest = { s with turns := ts, portC := { s.portC with reqs := rest } } := rfl

@[simp] theorem State.issued_faulted (s : State) (ts : List Turn) (pid : PortId)
    (rest : List Access) : (s.issued ts pid rest).faulted = s.faulted := by
  cases pid <;> rfl

section Turns

variable {s : State} {ts : List Turn}

/-- With no held access ready, the first of `turns` is used up and its agent steps. -/
theorem step_of_turn {turn : Turn} (hready : s.readyHeld = none) (hturns : s.turns = turn :: ts) :
    step s = stepTurn turn { s with turns := ts } := by
  simp [step, hready, hturns]

/-- A host on a port that accepts accesses issues the head of its list. -/
theorem State.nextAccess_of_free {pid : PortId} {a : Access} {rest : List Access}
    (hfree : (s.port pid).hold = none) (hreqs : (s.port pid).reqs = a :: rest) :
    s.nextAccess pid = some (a, s.setPort pid { s.port pid with reqs := rest }) := by
  simp [State.nextAccess, hfree, hreqs]

theorem State.nextAccess_issued {pid : PortId} {a : Access} {rest : List Access}
    (hfree : (s.port pid).hold = none) (hreqs : (s.port pid).reqs = a :: rest) :
    ({ s with turns := ts } : State).nextAccess pid = some (a, s.issued ts pid rest) := by
  have hport : ({ s with turns := ts } : State).port pid = s.port pid := by cases pid <;> rfl
  rw [State.nextAccess_of_free (hport ▸ hfree) (hport ▸ hreqs), hport]
  rfl

/-- The decoder reads an access from its descriptor (30_encoding.md R100). -/
theorem State.decodeAccess_eq_decode (s : State) (pid : PortId) (a : Access) :
    s.decodeAccess pid a =
      decode s.cfg.lineW (.access a.width (descriptor pid.bit a.write a.off) a.data) :=
  (decodeDescriptor_descriptor ..).symm

/-- An access that decodes runs at its host's turn (20_memory.md R78). -/
theorem step_runs_access {pid : PortId} {a : Access} {rest : List Access} {i : Instr}
    (hready : s.readyHeld = none) (hturns : s.turns = pid.turn :: ts)
    (hfree : (s.port pid).hold = none) (hreqs : (s.port pid).reqs = a :: rest)
    (hdec : decode s.cfg.lineW (.access a.width (descriptor pid.bit a.write a.off) a.data) = .ok i) :
    step s = exec i (s.issued ts pid rest) := by
  have hdec' : ({ s with turns := ts } : State).decodeAccess pid a = .ok i := by
    rwa [State.decodeAccess_eq_decode]
  rw [step_of_turn hready hturns, stepTurn_host]
  simp [stepHost, State.nextAccess_issued hfree hreqs, hdec']

/-- The command word in P2C runs at the turn of a waiting dispatcher (44_dispatcher.md R290). -/
theorem step_runs_command {w : Word} (hready : s.readyHeld = none) (hturns : s.turns = .d :: ts)
    (hf : s.faulted = false) (hphase : s.phase = .waitCmd) (hp2c : s.p2c = some w) :
    step s = exec (decodeCommand w) { s with turns := ts } := by
  have hnotFaulted : ¬ ({ s with turns := ts } : State).faulted = true :=
    Bool.eq_false_iff.mp hf
  rw [step_of_turn hready hturns, stepTurn, stepDispatcher, if_neg hnotFaulted]
  simp [hphase, hp2c]

/-- E's next entry is the head of the op queue (40_panellink.md R145). -/
theorem State.nextItem_of_cons {q : QItem} {rest : List QItem} (hf : s.faulted = false)
    (hqueue : s.opQueue = q :: rest) : s.nextItem = some (q, { s with opQueue := rest }) := by
  simp [State.nextItem, hf, hqueue]

/-- The wire command that a command byte names runs once E has performed the byte
(41_panel_receiver.md R207). -/
theorem step_runs_wireCommand {q : QItem} {rest : List QItem} {b : Byte} {i : Instr}
    (hready : s.readyHeld = none) (hturns : s.turns = .e :: ts) (hf : s.faulted = false)
    (hqueue : s.opQueue = q :: rest) (hev : q.ev = .cmd b) (hdec : decodeWire b = .ok i) :
    step s = exec i (({ s with turns := ts, opQueue := rest } : State).perform q) := by
  have hnext : ({ s with turns := ts } : State).nextItem =
      some (q, { s with turns := ts, opQueue := rest }) := State.nextItem_of_cons hf hqueue
  rw [step_of_turn hready hturns]
  simp [stepTurn, stepEngine, hnext, hev, hdec]

end Turns

/-- Settles O5. Each agent's turn is one equation of `step`: a host's access, the dispatcher's word, the
engine's command byte. -/
theorem stepRunsTheDecodedOperation : Obligations.StepRunsTheDecodedOperation := by
  refine ⟨?portP, ?portC, ?dispatcher, ?engine⟩
  case portP =>
    intro s a rest ts i hready hturns hfree hreqs hdec
    rw [step_runs_access (pid := .p) hready hturns hfree hreqs hdec, State.issued_p]
  case portC =>
    intro s a rest ts i hready hturns hfree hreqs hdec
    rw [step_runs_access (pid := .c) hready hturns hfree hreqs hdec, State.issued_c]
  case dispatcher =>
    intro s w ts i hready hturns hf hphase hp2c hdec
    cases hdec
    exact step_runs_command hready hturns hf hphase hp2c
  case engine =>
    intro s q rest ts b i hready hturns hf hqueue hev hdec
    exact step_runs_wireCommand hready hturns hf hqueue hev hdec

end Sys2Proof.Machine
end

section
namespace Sys2Proof

/-! ## What the decoder refuses

SUPPORT. The steps of 30_encoding.md R101 that end in an error, with the offset as a number. -/

/-- R101 step 1: an access that is not a whole, aligned word. -/
theorem decodeOffset_badAccess {lineW width : Nat} {port wr : Bool} {off : Half} {D : Word}
    (h : width ≠ 32 ∨ off.toNat % 4 ≠ 0) :
    decodeOffset lineW width port wr off D = .error .badAccess := by
  have hlow : off.extractLsb' 0 2 = 0#2 → off.toNat % 4 = 0 := fun e => by
    simpa [field_toNat] using congrArg BitVec.toNat e
  exact if_pos (h.imp_right (mt hlow))

/-- R101 steps 2 to 5: a whole, aligned word outside the line buffer, the palette and the fixed
offsets. -/
theorem decodeOffset_badRegister {lineW : Nat} {port wr : Bool} {off : Half} {D : Word}
    (halign : off.toNat % 4 = 0) (hpal : ¬ (0x100 ≤ off.toNat ∧ off.toNat < 0x140))
    (hbuf : ¬ (0x1000 ≤ off.toNat ∧ off.toNat < 0x1000 + 4 * lineW))
    (hfixed : (if port then decodeFixedC wr off D else decodeFixedP wr off D) = none) :
    decodeOffset lineW 32 port wr off D = .error .badRegister := by
  have hlow : off.extractLsb' 0 2 = 0#2 := by
    apply BitVec.eq_of_toNat_eq
    simpa [field_toNat] using halign
  have hindex : off.extractLsb' 12 4 = 0x1#4 → ¬ (off.extractLsb' 2 10).toNat < lineW := by
    intro e
    have hpage := congrArg BitVec.toNat e
    simp only [field_toNat, BitVec.toNat_ofNat] at hpage ⊢
    omega
  have hentry : off.extractLsb' 6 10 ≠ 0x004#10 := by
    intro e
    have hblock := congrArg BitVec.toNat e
    simp only [field_toNat, BitVec.toNat_ofNat] at hblock
    omega
  rw [decodeOffset, if_neg (by simp [hlow]), if_neg hentry]
  split
  · rw [if_neg (hindex ‹_›)]
  · rw [hfixed]

/-- The fixed offsets of the P-port (10_state.md R40). -/
theorem decodeFixedP_eq_none {wr : Bool} {off : Half} {D : Word}
    (h : off.toNat ∉ [0x00, 0x04, 0x08, 0x0C, 0x10]) : decodeFixedP wr off D = none := by
  simp only [List.mem_cons, List.not_mem_nil, or_false, not_or] at h
  unfold decodeFixedP
  split
  pick_goal -1
  · rfl
  all_goals omega

/-- The fixed offsets of the C-port (10_state.md R41). -/
theorem decodeFixedC_eq_none {wr : Bool} {off : Half} {D : Word} (hlow : ¬ off.toNat < 0x18)
    (hlink : ¬ (0x40 ≤ off.toNat ∧ off.toNat < 0x84)) : decodeFixedC wr off D = none := by
  unfold decodeFixedC
  split
  pick_goal -1
  · rfl
  all_goals omega

/-- The fault code of a refused access (60_exceptions.md R315). -/
def DecodeError.faultCode : DecodeError → Machine.FaultCode
  | .badAccess => .badAccess
  | .badRegister | .unknownWireByte => .badRegister

end Sys2Proof

namespace Sys2Proof.Machine

/-! ## A refused access -/

/-- An access that the decoder refuses faults with its code and offset; a read returns 0. -/
theorem State.refuseAccess_of_unfaulted {s : State} (hf : s.faulted = false) (pid : PortId)
    (a : Access) (e : DecodeError) :
    s.refuseAccess pid a e =
      (s.raiseFault ⟨e.faultCode, a.off⟩ pid.bit false).complete pid
        (if a.write then none else some 0) := by
  cases e <;> simp [State.refuseAccess, DecodeError.faultCode, hf]

/-- The first fault, raised by an access of the P-port (60_exceptions.md R311). -/
theorem State.raiseFault_complete_p {s : State} (hf : s.faulted = false) (t : Trap)
    (ans : Option Word) :
    (s.raiseFault t false false).complete .p ans =
      { s with
        fault := { code := t.code.byte, port := false, disp := false, offset := t.off }
        opQueue := []
        portP := { s.portP with hold := none, answer := ans }
        portC := s.portC.dropHeld } := by
  simp [State.raiseFault, State.complete, State.setPort, hf]

/-- The first fault, raised by an access of the C-port (60_exceptions.md R311). -/
theorem State.raiseFault_complete_c {s : State} (hf : s.faulted = false) (t : Trap)
    (ans : Option Word) :
    (s.raiseFault t true false).complete .c ans =
      { s with
        fault := { code := t.code.byte, port := true, disp := false, offset := t.off }
        opQueue := []
        portP := s.portP.dropHeld
        portC := { s.portC with hold := none, answer := ans } } := by
  simp [State.raiseFault, State.complete, State.setPort, hf]

section Refused

variable {s : State} {a : Access} {rest : List Access} {ts : List Turn} {e : DecodeError}

/-- An access that the decoder refuses faults at its host's turn. -/
theorem step_refuses {pid : PortId} (hready : s.readyHeld = none) (hf : s.faulted = false)
    (hturns : s.turns = pid.turn :: ts) (hfree : (s.port pid).hold = none)
    (hreqs : (s.port pid).reqs = a :: rest)
    (hdec : decodeOffset s.cfg.lineW a.width pid.bit a.write a.off a.data = .error e) :
    step s = .next (((s.issued ts pid rest).raiseFault ⟨e.faultCode, a.off⟩ pid.bit false).complete
      pid (if a.write then none else some 0)) := by
  have hdec' : ({ s with turns := ts } : State).decodeAccess pid a = .error e := hdec
  have hf' : (s.issued ts pid rest).faulted = false := by simpa using hf
  rw [step_of_turn hready hturns, stepTurn_host]
  simp [stepHost, State.nextAccess_issued hfree hreqs, hdec',
    State.refuseAccess_of_unfaulted hf']

theorem step_refuses_p (hready : s.readyHeld = none) (hf : s.faulted = false)
    (hturns : s.turns = .p :: ts) (hfree : s.portP.hold = none) (hreqs : s.portP.reqs = a :: rest)
    (hdec : decodeOffset s.cfg.lineW a.width false a.write a.off a.data = .error e) :
    step s = .next { s with
      turns := ts
      fault := { code := e.faultCode.byte, port := false, disp := false, offset := a.off }
      opQueue := []
      portP := { reqs := rest, hold := none, answer := if a.write then none else some 0 }
      portC := s.portC.dropHeld } := by
  rw [step_refuses (pid := .p) hready hf hturns hfree hreqs hdec]
  exact congrArg _ (State.raiseFault_complete_p (by simpa using hf) _ _)

theorem step_refuses_c (hready : s.readyHeld = none) (hf : s.faulted = false)
    (hturns : s.turns = .c :: ts) (hfree : s.portC.hold = none) (hreqs : s.portC.reqs = a :: rest)
    (hdec : decodeOffset s.cfg.lineW a.width true a.write a.off a.data = .error e) :
    step s = .next { s with
      turns := ts
      fault := { code := e.faultCode.byte, port := true, disp := false, offset := a.off }
      opQueue := []
      portP := s.portP.dropHeld
      portC := { reqs := rest, hold := none, answer := if a.write then none else some 0 } } := by
  rw [step_refuses (pid := .c) hready hf hturns hfree hreqs hdec]
  exact congrArg _ (State.raiseFault_complete_c (by simpa using hf) _ _)

end Refused

/-- Settles O6. The decoder refuses the access with the error that the offset calls for, and a refused
access raises that error's fault and nothing else. -/
theorem unmappedAndNarrowAccessesFault : Obligations.UnmappedAndNarrowAccessesFault := by
  intro s a rest ts code hready hf _
  constructor
  · intro hturns hfree hreqs hcode
    have refused {e} := step_refuses_p (e := e) hready hf hturns hfree hreqs
    rcases hcode with ⟨rfl, hnarrow⟩ | ⟨rfl, hwidth, halign, hfixed, hpal, hbuf⟩
    · exact refused (decodeOffset_badAccess hnarrow)
    · rw [hwidth] at refused
      exact refused (decodeOffset_badRegister halign hpal hbuf (decodeFixedP_eq_none hfixed))
  · intro hturns hfree hreqs hcode
    have refused {e} := step_refuses_c (e := e) hready hf hturns hfree hreqs
    rcases hcode with ⟨rfl, hnarrow⟩ | ⟨rfl, hwidth, halign, hlow, hlink, hpal, hbuf⟩
    · exact refused (decodeOffset_badAccess hnarrow)
    · rw [hwidth] at refused
      exact refused (decodeOffset_badRegister halign hpal hbuf (decodeFixedC_eq_none hlow hlink))

end Sys2Proof.Machine
end

section
namespace Sys2Proof.Machine

/-! ## A held access -/

section Held

variable {s : State} {pid : PortId} {i : Instr}

/-- A held access is ready once its condition is true (20_memory.md R78). -/
theorem State.readyAt_of_held
    (hheld : (s.port pid).hold = some (.read i) ∨ (s.port pid).hold = some (.write i))
    (hcond : holdReady s i = true) : s.readyAt pid = some i := by
  rcases hheld with hheld | hheld <;> simp [State.readyAt, hheld, hcond]

theorem State.readyAt_of_free (hfree : (s.port pid).hold = none) : s.readyAt pid = none := by
  simp [State.readyAt, hfree]

/-- The P-port is looked at first (log 2). -/
theorem State.readyHeld_of_p (h : s.readyAt .p = some i) : s.readyHeld = some (.p, i) := by
  simp [State.readyHeld, h]

theorem State.readyHeld_of_c (hp : s.readyAt .p = none) (h : s.readyAt .c = some i) :
    s.readyHeld = some (.c, i) := by
  simp [State.readyHeld, hp, h]

/-- A ready held access runs on its own port before any turn. -/
theorem step_of_ready (h : s.readyHeld = some (pid, i)) : step s = exec i (s.release pid) := by
  simp [step, h]

@[simp] theorem State.release_hold (s : State) (pid : PortId) :
    ((s.release pid).port pid).hold = none := by
  cases pid <;> rfl

/-- A ready held access whose rule lets it complete does so in this step, and uses up no turn. -/
theorem step_completes_held {isRead : Bool} {body : State → Effect} {s' : State} {v : Word}
    (hready : s.readyHeld = some (pid, i)) (hf : s.faulted = false)
    (hexec : ∀ t, exec i t = .next (t.access pid isRead i body))
    (hbody : body (s.release pid) = .done s' v) :
    step s = .next (s'.complete pid (if isRead then some v else none)) := by
  rw [step_of_ready hready, hexec,
    State.access_of_done (s.release_hold pid) (by simpa using hf) hbody]

end Held

/-! ### The mailbox accesses: what each waits for, and what it does -/

theorem holdReady_wPMboxTx (s : State) (v : Word) :
    holdReady s (.wPMboxTx v) = (s.sendReady || s.faulted) := rfl

theorem holdReady_rPMboxRx (s : State) :
    holdReady s .rPMboxRx = (s.c2p.isSome || s.faulted) := rfl

theorem holdReady_rCMboxRx (s : State) :
    holdReady s .rCMboxRx = (s.p2c.isSome || s.faulted) := rfl

theorem holdReady_wCMboxTx (s : State) (v : Word) :
    holdReady s (.wCMboxTx v) = (s.c2p.isNone || s.faulted) := rfl

theorem exec_wPMboxTx (v : Word) (s : State) :
    exec (.wPMboxTx v) s = .next (s.access .p false (.wPMboxTx v) (pushP2C v)) := rfl

theorem exec_rPMboxRx (s : State) :
    exec .rPMboxRx s = .next (s.access .p true .rPMboxRx popC2P) := rfl

theorem exec_rCMboxRx (s : State) :
    exec .rCMboxRx s = .next (s.access .c true .rCMboxRx (ownerGuard 0x0008 popP2C)) := rfl

theorem exec_wCMboxTx (v : Word) (s : State) :
    exec (.wCMboxTx v) s = .next (s.access .c false (.wCMboxTx v) (pushC2P v)) := rfl

/-! ### The mailbox rules that do not wait (42_mailbox.md) -/

section Mailbox

variable {s : State}

theorem State.sendReady_of_empty (hempty : s.p2c = none) (hbusy : s.busy = false) :
    s.sendReady = true := by simp [State.sendReady, hempty, hbusy]

theorem pushP2C_of_empty (hempty : s.p2c = none) (hbusy : s.busy = false) (v : Word) :
    pushP2C v s = .done
      { s with p2c := some v, busy := decide (v.extractLsb' 24 8 = 0x01), palLocked := true } 0 := by
  rw [pushP2C, if_pos (State.sendReady_of_empty hempty hbusy), hbusy]
  rfl

theorem popP2C_of_full {w : Word} (hfull : s.p2c = some w) :
    popP2C s = .done { s with p2c := none } w := by simp [popP2C, hfull]

theorem pushC2P_of_empty (hempty : s.c2p = none) (v : Word) :
    pushC2P v s = .done { s with c2p := some v } 0 := by simp [pushC2P, hempty]

theorem popC2P_of_full {w : Word} (hfull : s.c2p = some w) :
    popC2P s = .done { s with c2p := none } w := by simp [popC2P, hfull]

end Mailbox

/-- Settles O17. In each clause the slot's state makes the held access ready, and on its released port
its own rule completes it. -/
theorem heldAccessIsPerformedFirst : Obligations.HeldAccessIsPerformedFirst := by
  refine ⟨?send, ?fetch, ?receive, ?reply⟩
  case send =>
    intro s v hf hheld hempty hbusy
    have hcond : holdReady s (.wPMboxTx v) = true := by
      simp [holdReady_wPMboxTx, State.sendReady_of_empty hempty hbusy]
    have hready := State.readyHeld_of_p (State.readyAt_of_held (.inr hheld) hcond)
    have hrule := pushP2C_of_empty (s := s.release .p) (by simpa using hempty)
      (by simpa using hbusy) v
    rw [step_completes_held hready hf (exec_wPMboxTx v) hrule]
    rfl
  case fetch =>
    intro s w hf hheld hfull
    have hcond : holdReady s .rPMboxRx = true := by simp [holdReady_rPMboxRx, hfull]
    have hready := State.readyHeld_of_p (State.readyAt_of_held (.inl hheld) hcond)
    have hrule := popC2P_of_full (s := s.release .p) (by simpa using hfull)
    rw [step_completes_held hready hf exec_rPMboxRx hrule]
    rfl
  case receive =>
    intro s w hf howned hfree hheld hfull
    have hcond : holdReady s .rCMboxRx = true := by simp [holdReady_rCMboxRx, hfull]
    have hready := State.readyHeld_of_c (State.readyAt_of_free hfree)
      (State.readyAt_of_held (.inl hheld) hcond)
    have hguard := ownerGuard_of_owned (s := s.release .c) (off := 0x0008) (body := popP2C)
      (by simpa using howned)
    have hrule := popP2C_of_full (s := s.release .c) (by simpa using hfull)
    rw [step_completes_held hready hf exec_rCMboxRx (hguard.trans hrule)]
    rfl
  case reply =>
    intro s v hf hfree hheld hempty
    have hcond : holdReady s (.wCMboxTx v) = true := by simp [holdReady_wCMboxTx, hempty]
    have hready := State.readyHeld_of_c (State.readyAt_of_free hfree)
      (State.readyAt_of_held (.inr hheld) hcond)
    have hrule := pushC2P_of_empty (s := s.release .c) (by simpa using hempty) v
    rw [step_completes_held hready hf (exec_wCMboxTx v) hrule]
    rfl

end Sys2Proof.Machine
end

section
namespace Sys2Proof

/-! ## Decoding and encoding

SUPPORT. Each format's decoder as a spec of its own: the codes it accepts, and what it answers. -/

/-! ### Format FA (30_encoding.md R100, R101) -/

/-- The code of an access; a read has no data word (R100). -/
def accessCode (port wr : Bool) (off : Half) (D : Word) : Code :=
  .access 32 (descriptor port wr off) (if wr then D else 0)

theorem encode_linebufAccess (port wr : Bool) (i : BitVec 10) (D : Word) :
    encode (linebufAccess port wr i D) = accessCode port wr (linebufOffset i) D := by
  cases port <;> cases wr <;> rfl

theorem encode_paletteAccess (port wr : Bool) (k : BitVec 4) (D : Word) :
    encode (paletteAccess port wr k D) = accessCode port wr (paletteOffset k) D := by
  cases port <;> cases wr <;> rfl

theorem wellFormed_linebufAccess (lineW : Nat) (port wr : Bool) (i : BitVec 10) (D : Word) :
    (linebufAccess port wr i D).wellFormed lineW = decide (i.toNat < lineW) := by
  cases port <;> cases wr <;> rfl

theorem wellFormed_paletteAccess (lineW : Nat) (port wr : Bool) (k : BitVec 4) (D : Word) :
    (paletteAccess port wr k D).wellFormed lineW = true := by
  cases port <;> cases wr <;> rfl

theorem decode_accessCode (lineW : Nat) (port wr : Bool) (off : Half) (D : Word) :
    decode lineW (accessCode port wr off D) =
      decodeOffset lineW 32 port wr off (if wr then D else 0) :=
  decodeDescriptor_descriptor ..

/-- R101 step 2. -/
theorem decodeOffset_linebufOffset {lineW : Nat} {i : BitVec 10} (hi : i.toNat < lineW)
    (port wr : Bool) (D : Word) :
    decodeOffset lineW 32 port wr (linebufOffset i) D = .ok (linebufAccess port wr i D) := by
  obtain ⟨hlow, hpage, hindex⟩ := linebufOffset_fields i
  simp [decodeOffset, hlow, hpage, hindex, hi]

/-- R101 step 3. -/
theorem decodeOffset_paletteOffset (lineW : Nat) (port wr : Bool) (k : BitVec 4) (D : Word) :
    decodeOffset lineW 32 port wr (paletteOffset k) D = .ok (paletteAccess port wr k D) := by
  obtain ⟨hlow, hpage, hblock, hindex⟩ := paletteOffset_fields k
  simp [decodeOffset, hlow, hpage, hblock, hindex]

/-- Only the data word of a write is in an operation (R100). -/
theorem linebufAccess_data (port wr : Bool) (i : BitVec 10) (D : Word) :
    linebufAccess port wr i (if wr then D else 0) = linebufAccess port wr i D := by
  cases wr <;> cases port <;> rfl

theorem paletteAccess_data (port wr : Bool) (k : BitVec 4) (D : Word) :
    paletteAccess port wr k (if wr then D else 0) = paletteAccess port wr k D := by
  cases wr <;> cases port <;> rfl

theorem decode_encode_linebufAccess {lineW : Nat} {i : BitVec 10} (hi : i.toNat < lineW)
    (port wr : Bool) (D : Word) :
    decode lineW (encode (linebufAccess port wr i D)) = .ok (linebufAccess port wr i D) := by
  rw [encode_linebufAccess, decode_accessCode, decodeOffset_linebufOffset hi, linebufAccess_data]

theorem decode_encode_paletteAccess (lineW : Nat) (port wr : Bool) (k : BitVec 4) (D : Word) :
    decode lineW (encode (paletteAccess port wr k D)) = .ok (paletteAccess port wr k D) := by
  rw [encode_paletteAccess, decode_accessCode, decodeOffset_paletteOffset, paletteAccess_data]

/-- An offset with the line buffer's fields is that of an element. -/
theorem linebufOffset_of_fields {off : Half} (hlow : off.extractLsb' 0 2 = 0#2)
    (hpage : off.extractLsb' 12 4 = 0x1#4) : linebufOffset (off.extractLsb' 2 10) = off := by
  apply BitVec.eq_of_toNat_eq
  have hlow := congrArg BitVec.toNat hlow
  have hpage := congrArg BitVec.toNat hpage
  simp only [linebufOffset_toNat, field_toNat, BitVec.toNat_ofNat] at hlow hpage ⊢
  omega

/-- An offset with the palette's fields is that of an entry. -/
theorem paletteOffset_of_fields {off : Half} (hlow : off.extractLsb' 0 2 = 0#2)
    (hblock : off.extractLsb' 6 10 = 0x004#10) : paletteOffset (off.extractLsb' 2 4) = off := by
  apply BitVec.eq_of_toNat_eq
  have hlow := congrArg BitVec.toNat hlow
  have hblock := congrArg BitVec.toNat hblock
  simp only [paletteOffset_toNat, field_toNat, BitVec.toNat_ofNat] at hlow hblock ⊢
  omega

/-- A bit as a digit. -/
theorem bit_toNat {n : Nat} (x : BitVec n) (k : Nat) : (x.getLsbD k).toNat = x.toNat / 2 ^ k % 2 :=
  Nat.toNat_testBit ..

/-- A descriptor is its three fields (R100). -/
theorem descriptor_of_fields (A : BitVec 18) :
    descriptor (A.getLsbD 17) (A.getLsbD 16) (A.extractLsb' 0 16) = A := by
  apply BitVec.eq_of_toNat_eq
  have hA := A.isLt
  rw [descriptor_toNat, bit_toNat, bit_toNat, field_toNat]
  omega

/-- R101 step 4 on the P-port: the operation at a fixed offset is encoded with that offset, and it is
well formed whatever LINE_W is. -/
theorem decodeFixedP_eq_some {wr : Bool} {off : Half} {D : Word} {i : Instr}
    (h : decodeFixedP wr off D = some i) :
    encode i = accessCode false wr off D ∧ ∀ lineW, i.wellFormed lineW = true := by
  unfold decodeFixedP at h
  split at h <;> cases h <;>
    exact ⟨congrArg (accessCode false _ · D) (BitVec.eq_of_toNat_eq (Eq.symm ‹off.toNat = _›)),
      fun _ => rfl⟩

/-- R101 step 4 on the C-port. -/
theorem decodeFixedC_eq_some {wr : Bool} {off : Half} {D : Word} {i : Instr}
    (h : decodeFixedC wr off D = some i) :
    encode i = accessCode true wr off D ∧ ∀ lineW, i.wellFormed lineW = true := by
  unfold decodeFixedC at h
  split at h <;> cases h <;>
    exact ⟨congrArg (accessCode true _ · D) (BitVec.eq_of_toNat_eq (Eq.symm ‹off.toNat = _›)),
      fun _ => rfl⟩

/-- R101: whatever step of it accepts an access, the operation is well formed and its code names the
same access. -/
theorem decodeOffset_eq_ok {lineW width : Nat} {port wr : Bool} {off : Half} {D : Word} {i : Instr}
    (h : decodeOffset lineW width port wr off D = .ok i) :
    encode i = accessCode port wr off D ∧ i.wellFormed lineW = true := by
  unfold decodeOffset at h
  split at h
  case isTrue => cases h
  case isFalse hword =>
    obtain ⟨-, hlow⟩ : width = 32 ∧ off.extractLsb' 0 2 = 0#2 := by simpa using hword
    split at h
    case isTrue hpage =>
      split at h <;> cases h
      case isTrue hindex =>
      rw [encode_linebufAccess, linebufOffset_of_fields hlow hpage, wellFormed_linebufAccess]
      exact ⟨rfl, by simpa using hindex⟩
    case isFalse =>
      split at h
      case isTrue hblock =>
        cases h
        rw [encode_paletteAccess, paletteOffset_of_fields hlow hblock]
        exact ⟨rfl, wellFormed_paletteAccess ..⟩
      case isFalse =>
        split at h <;> cases h
        case h_1 hfixed =>
        cases port with
        | false => exact (decodeFixedP_eq_some hfixed).imp_right (· lineW)
        | true => exact (decodeFixedC_eq_some hfixed).imp_right (· lineW)

/-! ### Format FC (R103, R104) -/

/-- R103: a tag with its zero bits above a 16-bit operand. -/
theorem append_operand {w : Word} {tag : Half} (h : w.extractLsb' 16 16 = tag) :
    tag ++ w.extractLsb' 0 16 = w := by
  apply BitVec.eq_of_toNat_eq
  have hw := w.isLt
  rw [← h, append_toNat, field_toNat, field_toNat]
  omega

/-- R103: SET_IDLE's fixed bits above its two flags. -/
theorem setIdleWord_of_fields {w : Word} (h : w.extractLsb' 2 30 = 0x00800000#30) :
    setIdleWord (w.getLsbD 1) (w.getLsbD 0) = w := by
  apply BitVec.eq_of_toNat_eq
  have hbits := congrArg BitVec.toNat h
  have hsplit : (setIdleWord (w.getLsbD 1) (w.getLsbD 0)).toNat =
    ((0x00800000#30 ++ BitVec.ofBool (w.getLsbD 1)) ++ BitVec.ofBool (w.getLsbD 0) :
      BitVec (30 + 1 + 1)).toNat := rfl
  have hw := w.isLt
  rw [hsplit, append_toNat, append_toNat, BitVec.toNat_ofBool, BitVec.toNat_ofBool, bit_toNat,
    bit_toNat]
  simp only [field_toNat, BitVec.toNat_ofNat] at hbits ⊢
  omega

/-- R104: a word that no named row matches is reserved. -/
theorem decodeCommand_of_not_named {w : Word} (h : isNamedCommand w = false) :
    decodeCommand w = .reservedCommand w := by
  simp only [isNamedCommand, Bool.or_eq_false_iff, decide_eq_false_iff_not] at h
  obtain ⟨⟨⟨hnop, hdraw⟩, hidle⟩, hpixel⟩ := h
  rw [decodeCommand, if_neg hnop, if_neg hdraw, if_neg hidle, if_neg hpixel]

/-- R103, R104: a command word decodes to a well-formed command, whose word it is. -/
theorem decodeCommand_spec (w : Word) :
    encode (decodeCommand w) = .command w ∧ ∀ lineW, (decodeCommand w).wellFormed lineW = true := by
  unfold decodeCommand
  split
  case isTrue hnop => exact ⟨hnop ▸ rfl, fun _ => rfl⟩
  case isFalse hnop =>
  split
  case isTrue hdraw => exact ⟨congrArg Code.command (append_operand hdraw), fun _ => rfl⟩
  case isFalse hdraw =>
  split
  case isTrue hidle => exact ⟨congrArg Code.command (setIdleWord_of_fields hidle), fun _ => rfl⟩
  case isFalse hidle =>
  split
  case isTrue hpixel => exact ⟨congrArg Code.command (append_operand hpixel), fun _ => rfl⟩
  case isFalse hpixel =>
  exact ⟨rfl, fun _ => by simp [Instr.wellFormed, isNamedCommand, hnop, hdraw, hidle, hpixel]⟩

/-! ### Format FW (41_panel_receiver.md R200) -/

/-- A wire byte decodes to the command whose byte it is, which is well formed. -/
theorem decodeWire_eq_ok {b : Byte} {i : Instr} (h : decodeWire b = .ok i) :
    encode i = .wire b ∧ ∀ lineW, i.wellFormed lineW = true := by
  unfold decodeWire at h
  split at h <;> cases h <;>
    exact ⟨congrArg Code.wire (BitVec.eq_of_toNat_eq (Eq.symm ‹b.toNat = _›)), fun _ => rfl⟩

/-! ### The statements -/

/-- Settles O1, by cases on the operation. The arrays and the command words have operands in their code;
every other code is a literal of the tables with at most a data word beside it. -/
theorem decodeOfEncode : Obligations.DecodeOfEncode := by
  intro lineW i hwf
  cases i with
  | rPPalette k => exact decode_encode_paletteAccess lineW false false k 0
  | wPPalette k v => exact decode_encode_paletteAccess lineW false true k v
  | rCPalette k => exact decode_encode_paletteAccess lineW true false k 0
  | wCPalette k v => exact decode_encode_paletteAccess lineW true true k v
  | rPLinebuf i => exact decode_encode_linebufAccess (of_decide_eq_true hwf) false false 0
  | wPLinebuf i v => exact decode_encode_linebufAccess (of_decide_eq_true hwf) false true v
  | rCLinebuf i => exact decode_encode_linebufAccess (of_decide_eq_true hwf) true false 0
  | wCLinebuf i v => exact decode_encode_linebufAccess (of_decide_eq_true hwf) true true v
  | drawLine row => exact congrArg Except.ok (decodeCommand_drawLineWord row)
  | setIdle invert idle => exact congrArg Except.ok (decodeCommand_setIdleWord invert idle)
  | setPixel color => exact congrArg Except.ok (decodeCommand_setPixelWord color)
  | reservedCommand w =>
    exact congrArg Except.ok (decodeCommand_of_not_named (by simpa [Instr.wellFormed] using hwf))
  | _ => rfl

/-- Settles O2, format by format; of an access, the descriptor is put together from the fields that were
decoded. -/
theorem encodeOfDecode : Obligations.EncodeOfDecode := by
  refine ⟨?access, fun w => (decodeCommand_spec w).1, fun b i h => (decodeWire_eq_ok h).1⟩
  case access =>
    intro lineW A D i h
    calc encode i
        = accessCode (A.getLsbD 17) (A.getLsbD 16) (A.extractLsb' 0 16) D := (decodeOffset_eq_ok h).1
      _ = .access 32 A (if A.getLsbD 16 then D else 0) := by rw [accessCode, descriptor_of_fields]

/-- Settles O3, format by format. -/
theorem decodedIsWellFormed : Obligations.DecodedIsWellFormed := by
  intro lineW c i h
  cases c with
  | access width A D => exact (decodeOffset_eq_ok h).2
  | command w =>
    cases h
    exact (decodeCommand_spec w).2 lineW
  | wire b => exact (decodeWire_eq_ok h).2 lineW

/-- Settles O4: the decoder evaluates on each of the twelve words. -/
theorem tableWordsDecode : Obligations.TableWordsDecode := by
  unfold Obligations.TableWordsDecode
  decide

end Sys2Proof
end

section
namespace Sys2Proof.Machine

/-! ## The toggles -/

/-- A write of agent C's whose rule changes no register and starts the operation of these events is
issued with exactly them (40_panellink.md R145). -/
theorem issuesC_of_plain {s : State} {i : Instr} {off : Half} {rule : State → List QItem}
    {evs : List WireEvent}
    (hexec : exec i s = .next (s.linkWrite off i (streamGuard off fun s => .start s (rule s))))
    (howned : s.OwnedByC) (hclosed : s.streamOpen = false) (hne : evs ≠ [])
    (hrule : rule s = evs.map plain) : IssuesC i s s evs := by
  obtain ⟨hready, hdisp⟩ := howned
  obtain ⟨init, last, rfl⟩ : ∃ init last, evs = init ++ [last] :=
    ⟨_, _, (List.dropLast_concat_getLast hne).symm⟩
  refine issuesC_of_start (q := init.map plain) (last := plain last) hexec hready ?starts rfl rfl
    ?ends ?marks
  case starts =>
    rw [ownerGuard_of_owned hdisp, streamGuard_of_closed hclosed, hrule, List.map_append]
    rfl
  case ends => simp [plain]
  case marks => simp [plain, streamMarks]

/-- Settles O22. Each frame is three plain events, and C_POWER's settle one more. -/
theorem toggleOperations : Obligations.ToggleOperations := by
  intro s v howned hclosed
  refine ⟨issuesC_of_plain rfl howned hclosed (by simp) rfl,
    issuesC_of_plain rfl howned hclosed (by simp) rfl,
    issuesC_of_plain rfl howned hclosed ?nonempty ?events⟩
  case nonempty => split <;> simp
  case events =>
    rw [boolOperand]
    split
    case isTrue =>
      rw [List.map_append]
      split <;> rfl
    case isFalse => rfl

end Sys2Proof.Machine
end

section
namespace Sys2Proof.Machine

/-! ## What a step prepares and what it runs

SUPPORT. `Act` forgets which operation an action runs. `Prepares` and `Runs` keep it: a step first takes
a turn, frees a ready port, issues an access or performs an event, and then one operation runs. -/

/-- What a step does before its action: the moves of `StepRule`, with what each rests on. -/
inductive Prepares (s : State) : State → Prop
  /-- no turn is left -/
  | stay : Prepares s s
  /-- a held access that is ready leaves its port -/
  | release {pid : PortId} {i : Instr} (hready : s.readyHeld = some (pid, i)) :
      Prepares s (s.release pid)
  /-- a turn is used up -/
  | turn (ts : List Turn) : Prepares s { s with turns := ts }
  /-- at its turn a host issues an access -/
  | issue (ts : List Turn) (pid : PortId) (rest : List Access) (hfree : (s.port pid).hold = none) :
      Prepares s (s.issued ts pid rest)
  /-- at its turn E performs the head of the op queue -/
  | perform (ts : List Turn) (q : QItem) (rest : List QItem) (hready : s.readyHeld = none)
      (hturns : s.turns = .e :: ts) (hf : s.faulted = false) (hqueue : s.opQueue = q :: rest) :
      Prepares s (({ s with turns := ts, opQueue := rest } : State).perform q)

/-- What a step does then. -/
inductive Runs (s : State) : State → Prop
  | nothing : Runs s s
  | operation {t : State} (i : Instr) (h : exec i s = .next t) : Runs s t
  | refuse (pid : PortId) (a : Access) (e : DecodeError) (hfree : (s.port pid).hold = none) :
      Runs s (s.refuseAccess pid a e)
  | dispatcher (w : Word) (k : Nat) (issued : Bool) (hf : s.faulted = false)
      (hp : s.phase = .exec w k issued) : Runs s (s.dispatcherExec w k issued)
  | unknownByte : Runs s { s with panel := s.panel.unknownCommand }
  | line (ev : WireEvent) : Runs s { s with panel := s.panel.lineEvent s.cfg ev }

theorem Runs.act {s t : State} (h : Runs s t) : Act s t := by
  cases h with
  | nothing => exact .idle
  | operation i h => exact act_of_exec h
  | refuse pid a e hfree => exact refuseAccess_act a e hfree
  | dispatcher w k issued hf hp => exact dispatcherExec_act hf hp
  | unknownByte => exact .unknownByte
  | line ev => exact .line ev

/-- What the turns keep, every preparation keeps. -/
theorem Prepares.keeps {K I : State → Prop} (R : StepRule K I) {s x : State} (h : Prepares s x)
    (hK : K s) : K x := by
  cases h with
  | stay => exact hK
  | release hready => exact R.release s _ _ hready hK
  | turn ts => exact R.turn s ts hK
  | issue ts pid rest hfree =>
    have hport : ({ s with turns := ts } : State).port pid = s.port pid := by cases pid <;> rfl
    have := R.issue _ pid rest (hport ▸ hfree) (R.turn s ts hK)
    rwa [hport] at this
  | perform ts q rest _ _ hf hqueue =>
    exact R.perform { s with turns := ts } q rest hf hqueue (R.turn s ts hK)

/-- Every turn but the block reset's prepares an operation and runs it. -/
theorem stepTurn_runs {s t : State} {turn : Turn} {ts : List Turn} (hready : s.readyHeld = none)
    (hturns : s.turns = turn :: ts) (hno : turn ≠ .reset)
    (hs : stepTurn turn { s with turns := ts } = .next t) : ∃ x, Prepares s x ∧ Runs x t := by
  have host : ∀ pid, stepHost pid { s with turns := ts } = .next t →
      ∃ x, Prepares s x ∧ Runs x t := by
    intro pid hs
    have hport : ({ s with turns := ts } : State).port pid = s.port pid := by cases pid <;> rfl
    rcases stepHost_cases pid { s with turns := ts } with ⟨-, e⟩ | ⟨a, s', hn, hcases⟩
    · rw [e] at hs
      cases hs
      exact ⟨_, .turn ts, .nothing⟩
    · obtain ⟨hfree, rest, rfl⟩ := State.nextAccess_eq_some hn
      rw [hport] at hfree hcases
      refine ⟨_, .issue ts pid rest hfree, ?_⟩
      rcases hcases with ⟨i, -, e⟩ | ⟨e', -, e⟩ <;> rw [e] at hs
      · exact .operation i hs
      · cases hs
        refine .refuse pid a e' ?_
        cases pid <;> exact hfree
  cases turn with
  | p => exact host .p hs
  | c => exact host .c hs
  | d =>
    refine ⟨_, .turn ts, ?_⟩
    rcases stepDispatcher_cases { s with turns := ts } with
      e | ⟨-, -, w, -, e⟩ | ⟨hf, w, k, issued, hp, e⟩ <;> rw [stepTurn, e] at hs
    · cases hs
      exact .nothing
    · exact .operation _ hs
    · cases hs
      exact .dispatcher w k issued hf hp
  | e =>
    rw [stepTurn] at hs
    rcases stepEngine_cases { s with turns := ts } with ⟨-, e⟩ | ⟨q, s', hn, hcases⟩
    · rw [e] at hs
      cases hs
      exact ⟨_, .turn ts, .nothing⟩
    · rcases State.nextItem_cases { s with turns := ts } with ⟨hnone, -⟩ | ⟨q', rest, hf, hq, hsome⟩
      · rw [hnone] at hn
        cases hn
      · rw [hsome] at hn
        cases hn
        refine ⟨_, .perform ts q rest hready hturns hf hq, ?_⟩
        rcases hcases with ⟨b, i, -, -, e⟩ | ⟨b, e', -, -, e⟩ | ⟨-, e⟩ <;> rw [e] at hs
        · exact .operation i hs
        · cases hs
          simpa using Runs.unknownByte (s := State.perform { s with turns := ts, opQueue := rest } q)
        · cases hs
          simpa using Runs.line (s := State.perform { s with turns := ts, opQueue := rest } q) q.ev
  | reset => exact absurd rfl hno

/-- Every step is a block reset, or prepares an operation and runs it. -/
theorem step_runs {s t : State} (hs : step s = .next t) :
    t = ({ s with turns := s.turns.tail } : State).blockReset ∨ ∃ x, Prepares s x ∧ Runs x t := by
  rcases step_cases s with ⟨pid, i, hready, e⟩ | ⟨-, -, e⟩ | ⟨turn, ts, hready, hturns, e⟩ <;>
    rw [e] at hs
  · exact .inr ⟨_, .release hready, .operation i hs⟩
  · cases hs
    exact .inr ⟨_, .stay, .nothing⟩
  · by_cases hturn : turn = .reset
    · subst hturn
      cases hs
      exact .inl (by rw [hturns]; rfl)
    · exact .inr (stepTurn_runs hready hturns hturn hs)

/-! ## The wire trace -/

theorem RuleStep.trace {s s' : State} (h : RuleStep s s') : s'.trace = s.trace := by cases h <;> rfl

/-- No action writes the trace: only E's performance of an event does. -/
theorem Act.trace {s t : State} (h : Act s t) : t.trace = s.trace := by
  cases h
  case done hr | start hr | opDone hr | opStart hr => simpa using hr.trace
  all_goals simp

/-- Settles O47. Of what a step prepares only E's performance of the head writes the trace, and no
operation that runs then does. -/
theorem traceGrowsOnlyByTheEngine : Obligations.TraceGrowsOnlyByTheEngine := by
  intro s t _ hs
  rcases step_runs hs with rfl | ⟨x, hprep, hrun⟩
  · exact .inl rfl
  · rw [hrun.act.trace]
    cases hprep with
    | stay | turn => exact .inl rfl
    | release => exact .inl (by simp)
    | issue ts pid => exact .inl (by cases pid <;> rfl)
    | perform ts q rest hready hturns hf hqueue =>
      exact .inr ⟨q, rest, hready, by rw [hturns]; rfl, hf, hqueue, by simp⟩

/-! ## Link operations in the queue -/

/-- Of the entries of one operation, the last completes it for its issuer. -/
theorem markEnd_countP (who who' : Issuer) (q : QItem) (r : List QItem)
    (h : (q :: r).all (·.ends = none) = true) :
    (markEnd who (q :: r)).countP (fun x => x.ends = some who') = if who = who' then 1 else 0 := by
  induction r generalizing q with
  | nil => simp [markEnd]
  | cons a r ih =>
    simp only [List.all_cons, Bool.and_eq_true, decide_eq_true_eq] at h
    obtain ⟨hq, hr⟩ := h
    have := ih a (by simpa using hr)
    simpa [markEnd, hq] using this

/-- How many operations of D's are queued in this phase (44_dispatcher.md R290). -/
def Phase.outstanding : Phase → Nat
  | .exec _ _ true => 1
  | _ => 0

theorem execPhase_outstanding (w : Word) (n k : Nat) : (execPhase w n k).outstanding = 0 := by
  unfold execPhase
  split <;> rfl

/-- The invariant with the two counts named. -/
theorem State.engineSound_iff (s : State) :
    s.EngineSound ↔ s.pendingEnds .port = (if s.portC.hold = some .link then 1 else 0) ∧
      (s.faulted = false → s.pendingEnds .disp = s.phase.outstanding) := by
  unfold State.EngineSound Phase.outstanding
  rfl

theorem State.dispatcherDone_outstanding (s : State) : s.dispatcherDone.phase.outstanding = 0 := by
  cases hp : s.phase with
  | off | waitCmd => simp [State.dispatcherDone, hp, Phase.outstanding]
  | exec w k issued =>
    simp only [State.dispatcherDone, hp]
    exact execPhase_outstanding ..

theorem State.takeCommand_outstanding (s : State) (w : Word) (ops : List (Half × Word)) :
    (s.takeCommand w ops).phase.outstanding = s.phase.outstanding := by
  unfold State.takeCommand
  split
  case isTrue hready =>
    rw [State.phase_of_dispatcherReady hready]
    exact execPhase_outstanding ..
  case isFalse => rfl

/-- The invariant reads only the queue, the C-port's hold, the latch and D's outstanding operation. -/
theorem State.EngineSound.congr {s t : State} (h : s.EngineSound) (hqueue : t.opQueue = s.opQueue)
    (hlink : t.portC.hold = some .link ↔ s.portC.hold = some .link) (hfault : t.fault = s.fault)
    (hphase : t.phase.outstanding = s.phase.outstanding) : t.EngineSound := by
  rw [State.engineSound_iff] at h ⊢
  simpa [State.pendingEnds, State.faulted, hqueue, hlink, hfault, hphase] using h

theorem RuleStep.opQueue {s s' : State} (hr : RuleStep s s') : s'.opQueue = s.opQueue := by
  cases hr <;> rfl

theorem RuleStep.fault {s s' : State} (hr : RuleStep s s') : s'.fault = s.fault := by
  cases hr <;> rfl

/-- The enabling takes D from OFF to WAIT_CMD; no other rule writes the phase. -/
theorem RuleStep.outstanding {s s' : State} (hr : RuleStep s s') :
    s'.phase.outstanding = s.phase.outstanding := by
  cases hr
  case enable => by_cases hp : s.phase = .off <;> simp [hp, Phase.outstanding]
  all_goals rfl

/-- No rule writes the queue, the ports or the latch, and none issues for D. -/
theorem RuleStep.engineSound {s s' : State} (hr : RuleStep s s') (h : s.EngineSound) :
    s'.EngineSound :=
  h.congr hr.opQueue (by rw [hr.portC]) hr.fault hr.outstanding

/-- A fault discards the queue, and C waits for nothing (60_exceptions.md R311). -/
theorem State.raiseFault_engineSound (s : State) (t : Trap) (port disp : Bool) :
    (s.raiseFault t port disp).EngineSound := ⟨by simp [State.pendingEnds], by simp⟩

theorem State.EngineSound.complete {s : State} (h : s.EngineSound) {pid : PortId}
    (ans : Option Word) (hfree : (s.port pid).hold = none) : (s.complete pid ans).EngineSound := by
  refine h.congr (by simp) ?link (by simp) (by simp)
  case link => cases pid <;> simp_all

/-- An operation adds one entry that completes it. -/
theorem State.enqueue_pendingEnds (s : State) {who who' : Issuer} {q : QItem} {r : List QItem}
    (hq : (q :: r).all (·.ends = none) = true) :
    (s.enqueue (markEnd who (q :: r))).pendingEnds who' =
      s.pendingEnds who' + if who = who' then 1 else 0 := by
  simp [State.pendingEnds, markEnd_countP who who' q r hq]

/-- C's operation stands behind what is pending, and C waits for it. -/
theorem State.EngineSound.start {s : State} (h : s.EngineSound) {q : QItem} {r : List QItem}
    (hfree : s.portC.hold = none) (hq : (q :: r).all (·.ends = none) = true) :
    ((s.enqueue (markEnd .port (q :: r))).holdPort .c .link).EngineSound := by
  obtain ⟨hport, hdisp⟩ := h
  rw [hfree] at hport
  exact ⟨(s.enqueue_pendingEnds hq).trans (by rw [hport]; rfl),
    fun hf => (s.enqueue_pendingEnds hq).trans (hdisp hf)⟩

/-- D's operation stands behind what is pending, and it is the one that is outstanding. -/
theorem State.EngineSound.dispatcherStart {s : State} (h : s.EngineSound) {q : QItem}
    {r : List QItem} {w : Word} {k : Nat} (hf : s.faulted = false)
    (hidle : s.phase.outstanding = 0) (hq : (q :: r).all (·.ends = none) = true) :
    ({ s.enqueue (markEnd .disp (q :: r)) with phase := .exec w k true } : State).EngineSound := by
  obtain ⟨hport, hdisp⟩ := s.engineSound_iff.1 h
  exact ⟨(s.enqueue_pendingEnds hq).trans hport,
    fun _ => (s.enqueue_pendingEnds hq).trans (by rw [hdisp hf, hidle]; rfl)⟩

/-- E's performance of an entry frees the C-port if it completes C's operation. -/
theorem State.perform_portC (s : State) (q : QItem) :
    (s.perform q).portC =
      if q.ends = some .port then { s.portC with hold := none, answer := none } else s.portC := by
  rcases hends : q.ends with _ | _ | _ <;> simp [State.perform, State.operationDone, hends]

theorem State.perform_outstanding (s : State) (q : QItem) :
    (s.perform q).phase.outstanding = if q.ends = some .disp then 0 else s.phase.outstanding := by
  rcases hends : q.ends with _ | _ | _ <;>
    simp [State.perform, State.operationDone, hends, State.dispatcherDone_outstanding]

/-- The entry that E performs is off the queue, and if it was an operation's last, its issuer no longer
waits (40_panellink.md R145). -/
theorem State.EngineSound.perform {s : State} {q : QItem} {rest : List QItem} (h : s.EngineSound)
    (hf : s.faulted = false) (hqueue : s.opQueue = q :: rest) :
    (({ s with opQueue := rest } : State).perform q).EngineSound := by
  obtain ⟨hport, hdisp⟩ := s.engineSound_iff.1 h
  have hdisp := hdisp hf
  simp only [State.pendingEnds, hqueue, List.countP_cons, decide_eq_true_eq] at hport hdisp
  refine (State.engineSound_iff _).2 ⟨?port, fun _ => ?disp⟩
  case port =>
    rw [State.perform_portC]
    simp only [State.pendingEnds, State.perform_opQueue]
    by_cases hends : q.ends = some .port
    · simp only [hends, if_true] at hport ⊢
      have hone : (if s.portC.hold = some .link then 1 else 0) ≤ 1 := by split <;> simp
      show _ = 0
      omega
    · simpa [hends] using hport
  case disp =>
    rw [State.perform_outstanding]
    simp only [State.pendingEnds, State.perform_opQueue]
    by_cases hends : q.ends = some .disp
    · simp only [hends, if_true] at hdisp ⊢
      have : s.phase.outstanding ≤ 1 := by unfold Phase.outstanding; split <;> simp
      omega
    · simpa [hends] using hdisp

/-- If C waits for the engine, one of its operations is queued. -/
def State.LinkQueued (s : State) : Prop := s.portC.hold = some .link → 0 < s.pendingEnds .port

theorem State.EngineSound.linkQueued {s : State} (h : s.EngineSound) : s.LinkQueued := by
  intro hlink
  obtain ⟨hport, -⟩ := h
  simp [hport, hlink]

/-- Every action keeps the counts, but for a hold that waits for no queued operation. -/
theorem Act.engineSound {s t : State} (hact : Act s t) (h : s.EngineSound) (hlink : t.LinkQueued) :
    t.EngineSound := by
  cases hact
  case answer pid ans hfree => exact h.complete ans hfree
  case done pid ans hfree _ hr =>
    refine (hr.engineSound h).complete ans ?_
    cases pid <;> simp_all [hr.portP, hr.portC]
  case wait pid x hfree _ _ =>
    cases pid with
    | p => exact h.congr rfl Iff.rfl rfl rfl
    | c =>
      refine h.congr rfl ?_ rfl rfl
      have hfree : s.portC.hold = none := hfree
      suffices x ≠ .link by simp [this, hfree]
      rintro rfl
      obtain ⟨hport, -⟩ := h
      have hnone : s.pendingEnds .port = 0 := by simpa [hfree] using hport
      exact absurd (hlink rfl) (by simpa [State.pendingEnds] using hnone)
  case start q r hfree _ hq hr => exact (hr.engineSound h).start (by rw [hr.portC, hfree]) hq
  case trap pid t ans _ _ =>
    exact (s.raiseFault_engineSound t pid.bit false).complete ans (by cases pid <;> simp)
  case reserved => exact State.raiseFault_engineSound _ _ true true
  case opTrap t _ _ => exact s.raiseFault_engineSound t true true
  case take w => exact h.congr (by simp) (by simp) (by simp) (s.takeCommand_outstanding ..)
  case opDone hp _ hr =>
    refine (hr.engineSound h).congr (by simp) (by simp) (by simp) ?_
    rw [State.dispatcherDone_outstanding, hr.outstanding, hp]
    rfl
  case opStart hp hf _ _ hq hr =>
    exact (hr.engineSound h).dispatcherStart (by simpa [State.faulted, hr.fault] using hf)
      (by rw [hr.outstanding, hp]; rfl) hq
  case opEnd hp _ _ => exact h.congr rfl Iff.rfl rfl (by rw [hp]; rfl)
  all_goals exact h.congr rfl Iff.rfl rfl rfl

theorem engineSound_rule :
    StepRule State.EngineSound fun t => t.LinkQueued → t.EngineSound where
  turn _ _ h := h
  release s pid i hready h := by
    obtain ⟨-, hheld⟩ := s.readyHeld_held hready
    refine h.congr (by simp) ?_ (by simp) (by simp)
    cases pid with
    | p => rfl
    | c => rcases hheld with hheld | hheld <;> simp_all
  issue s pid rest _ h := h.congr (by simp) (by cases pid <;> rfl) (by simp) (by simp)
  perform _ _ _ hf hqueue h := h.perform hf hqueue
  act _ _ h hact := hact.engineSound h

/-! ### C waits only for what it has queued -/

theorem State.LinkQueued.of_hold_ne {t : State} (h : t.portC.hold ≠ some .link) : t.LinkQueued :=
  fun hlink => absurd hlink h

theorem State.LinkQueued.congr {s t : State} (h : s.LinkQueued) (hport : t.portC = s.portC)
    (hqueue : t.opQueue = s.opQueue) : t.LinkQueued := by
  unfold State.LinkQueued State.pendingEnds
  rwa [hport, hqueue]

/-- The last entry of the operation that C starts completes it. -/
theorem State.enqueue_linkQueued (s : State) (q : QItem) (r : List QItem) :
    ((s.enqueue (markEnd .port (q :: r))).holdPort .c .link).LinkQueued := by
  intro _
  obtain ⟨init, last, e⟩ : ∃ init last, q :: r = init ++ [last] :=
    ⟨_, _, (List.dropLast_concat_getLast (List.cons_ne_nil q r)).symm⟩
  rw [e, markEnd_append]
  simp [State.pendingEnds]

/-- Whatever the rule of an access of C's, it waits for the engine only behind what it queues. -/
theorem State.LinkQueued.accessC {s : State} (h : s.LinkQueued) (isRead : Bool) (i : Instr)
    (body : State → Effect) : (s.access .c isRead i body).LinkQueued := by
  rcases State.access_cases s .c isRead i body with
    ⟨-, e⟩ | ⟨-, -, e⟩ | ⟨-, -, ⟨s', v, -, e⟩ | ⟨-, e⟩ | ⟨s', -, e⟩ | ⟨s', q, r, -, e⟩ |
      ⟨t, -, e⟩⟩ <;> rw [e]
  · exact h
  · exact .of_hold_ne (by simp)
  · exact .of_hold_ne (by simp)
  · exact .of_hold_ne (by cases isRead <;> simp)
  · exact .of_hold_ne (by simp)
  · exact s'.enqueue_linkQueued q r
  · exact .of_hold_ne (by simp)

/-- An access of P's whose rule queues nothing. -/
theorem State.LinkQueued.accessP {s : State} (h : s.LinkQueued) {isRead : Bool} {i : Instr}
    {body : State → Effect} (hb : (body s).Fits s True False) :
    (s.access .p isRead i body).LinkQueued := by
  have hrule {s'} (hr : RuleStep s s') : s'.LinkQueued := h.congr hr.portC hr.opQueue
  rcases State.access_cases s .p isRead i body with
    ⟨-, e⟩ | ⟨-, -, e⟩ | ⟨-, -, ⟨s', v, hs, e⟩ | ⟨-, e⟩ | ⟨s', hs, e⟩ | ⟨s', q, r, hs, e⟩ |
      ⟨t, -, e⟩⟩ <;> rw [e]
  · exact h
  · exact h.congr rfl rfl
  · rw [hs] at hb
    exact (hrule hb).congr rfl rfl
  · exact h.congr rfl rfl
  · rw [hs] at hb
    exact (hrule hb.1).congr rfl rfl
  · rw [hs] at hb
    exact hb.2.1.elim
  · exact .of_hold_ne (by simp)

theorem State.LinkQueued.statusRead {s : State} (h : s.LinkQueued) (pid : PortId) (v : Word) :
    (s.statusRead pid v).LinkQueued := by
  unfold State.statusRead
  split
  · exact h
  · cases pid with
    | p => exact h.congr rfl rfl
    | c => exact .of_hold_ne (by simp)

/-- Every operation's meaning, by the port of the access; a command word and a wire command touch
neither the C-port nor the queue. -/
theorem exec_linkQueued {i : Instr} {s t : State} (he : exec i s = .next t) (h : s.LinkQueued) :
    t.LinkQueued := by
  cases i
  case rPStatus | rPFault | rCStatus | rCFault => cases he; exact h.statusRead _ _
  case wPStatus | wPMboxRx | wPFault | rPMboxTx | rPBusy => cases he; exact h.accessP RuleStep.keep
  case wPBusy v =>
    cases he
    refine h.accessP ?_
    show RuleStep s _
    split
    · exact .busy true
    · exact .keep
  case wPMboxTx v => cases he; exact h.accessP (pushP2C_fits v trivial)
  case rPMboxRx => cases he; exact h.accessP (popC2P_fits trivial)
  case rPPalette k => cases he; exact h.accessP (paletteRead_fits k)
  case wPPalette k v => cases he; exact h.accessP (paletteWrite_fits k v)
  case rPLinebuf i => cases he; exact h.accessP (linebufReadP_fits i)
  case wPLinebuf i v => cases he; exact h.accessP (linebufWriteP_fits i v)
  case nop | drawLine | setIdle | setPixel => cases he; exact h.congr (by simp) (by simp)
  case reservedCommand w =>
    cases he
    split
    · exact .of_hold_ne (by simp)
    · exact h
  case swreset | slpin | slpout | noron | invoff | invon | dispoff | dispon | caset | raset | ramwr |
      madctl | idmoff | idmon | colmod =>
    cases he
    exact h.congr rfl rfl
  all_goals cases he; exact h.accessC _ _ _

/-- An operation of D's queues nothing that C waits for, and takes nothing off the queue. -/
theorem State.LinkQueued.dispatcherExec {s : State} (h : s.LinkQueued) (w : Word) (k : Nat)
    (issued : Bool) : (s.dispatcherExec w k issued).LinkQueued := by
  unfold State.dispatcherExec
  split
  · exact h
  split
  case h_2 => exact h.congr rfl rfl
  case h_1 off v _ =>
  have hfit := dispatcherOp_fits (s := s) off v
  have hrule {s'} (hr : RuleStep s s') : s'.LinkQueued := h.congr hr.portC hr.opQueue
  unfold State.dispatcherIssue
  cases hop : dispatcherOp off v s with
  | done s' _ =>
    rw [hop] at hfit
    exact (hrule hfit).congr (by simp) (by simp)
  | hold => exact h
  | start s' q =>
    rw [hop] at hfit
    obtain ⟨hr, -, hq⟩ := hfit
    cases q with
    | nil => exact (hrule hr).congr (by simp) (by simp)
    | cons q r =>
      intro hlink
      calc 0 < s'.pendingEnds .port := hrule hr hlink
        _ = (s'.enqueue (markEnd .disp (q :: r))).pendingEnds .port := by
          rw [s'.enqueue_pendingEnds hq]; rfl
  | trap t => exact .of_hold_ne (by simp)

theorem Runs.linkQueued {s t : State} (hrun : Runs s t) (h : s.LinkQueued) : t.LinkQueued := by
  cases hrun with
  | operation i he => exact exec_linkQueued he h
  | refuse pid a e hfree =>
    unfold State.refuseAccess
    split
    · cases pid with
      | p => exact h.congr rfl rfl
      | c => exact .of_hold_ne (by simp)
    · exact .of_hold_ne (by cases pid <;> simp)
  | dispatcher w k issued _ _ => exact h.dispatcherExec w k issued
  | nothing | unknownByte | line => exact h.congr rfl rfl

/-- Settles O53. The turns and the actions keep the two counts, and C waits for the engine only behind
an operation that it has queued; the reset empties the queue and frees the port. -/
theorem stepKeepsEngine : Obligations.StepKeepsEngine := by
  intro s t h hs
  rcases step_runs hs with rfl | ⟨x, hprep, hrun⟩
  · exact ⟨rfl, fun _ => rfl⟩
  · have hx : x.EngineSound := hprep.keeps engineSound_rule h
    exact hrun.act.engineSound hx (hrun.linkQueued hx.linkQueued)

end Sys2Proof.Machine
end

section
namespace Sys2Proof.Machine

/-! ## Agent C's accesses to the link engine -/

/-! ### How such an access ends -/

section Ends

variable {s s' : State} {i : Instr} {body : State → Effect}

/-- An access of C whose rule completes at once. -/
theorem answersC_of_done {isRead : Bool} {v : Word}
    (hexec : exec i s = .next (s.access .c isRead i body)) (hready : s.ReadyC)
    (hbody : body s = .done s' v) (hport : s'.portC = s.portC) :
    AnswersC i s s' (if isRead then some v else none) := by
  obtain ⟨hfree, hf⟩ := hready
  unfold AnswersC
  rw [hexec, State.access_of_done (by simpa using hfree) hf hbody]
  simp [State.complete, State.setPort, hport]

/-- An owner's read of a register (R154, R155, R161 to R163). -/
theorem answersC_of_linkRead {off : Half} {f : State → Word}
    (hexec : exec i s = .next (s.linkRead off i f)) (howned : s.OwnedByC) :
    AnswersC i s s (some (f s)) :=
  answersC_of_done (isRead := true) hexec howned.1 (ownerGuard_of_owned howned.2) rfl

/-- An owner's write that completes at once. -/
theorem answersC_of_linkWrite {off : Half} {v : Word}
    (hexec : exec i s = .next (s.linkWrite off i body)) (howned : s.OwnedByC)
    (hbody : body s = .done s' v) (hport : s'.portC = s.portC) : AnswersC i s s' none :=
  answersC_of_done hexec howned.1 ((ownerGuard_of_owned howned.2).trans hbody) hport

/-- A read that the owner restriction covers, while the dispatcher is enabled (R269). -/
theorem raisesC_linkRead {off : Half} {f : State → Word}
    (hexec : exec i s = .next (s.linkRead off i f)) (hready : s.ReadyC)
    (hen : s.dispatchEn = true) : RaisesC i s 0x03 off (some 0) :=
  raisesC_of_trap (isRead := true) hexec hready (ownerGuard_of_dispatcher hen)

/-- A write that the owner restriction covers, while the dispatcher is enabled (R269). -/
theorem raisesC_linkWrite {off : Half} (hexec : exec i s = .next (s.linkWrite off i body))
    (hready : s.ReadyC) (hen : s.dispatchEn = true) : RaisesC i s 0x03 off none :=
  raisesC_of_trap hexec hready (ownerGuard_of_dispatcher hen)

/-- A failing check of an owner's write. -/
theorem raisesC_of_owned {off : Half} {t : Trap}
    (hexec : exec i s = .next (s.linkWrite off i body)) (howned : s.OwnedByC)
    (hbody : body s = .trap t) : RaisesC i s t.code.byte t.off none :=
  raisesC_of_trap hexec howned.1 ((ownerGuard_of_owned howned.2).trans hbody)

/-- A guarded operation with a stream open (R148). -/
theorem raisesC_of_streamOpen {off : Half}
    (hexec : exec i s = .next (s.linkWrite off i (streamGuard off body))) (howned : s.OwnedByC)
    (hopen : s.streamOpen = true) : RaisesC i s 0x07 off none :=
  raisesC_of_owned hexec howned (streamGuard_of_open hopen)

/-- An owner's write that starts an operation. -/
theorem issuesC_of_owned {off : Half} {q : List QItem} {last : QItem} {evs stream : List WireEvent}
    (hexec : exec i s = .next (s.linkWrite off i body)) (howned : s.OwnedByC)
    (hbody : body s = .start s' (q ++ [last]))
    (hport : s'.portC = s.portC) (hqueue : s'.opQueue = s.opQueue)
    (hends : ∀ x ∈ q, x.ends = none ∧ x.endsInit = false)
    (hmarks : (q ++ [last]).map (fun x => (x.ev, x.dataMode)) =
      evs.map (·, false) ++ streamMarks stream) :
    IssuesC i s s' evs stream last.endsInit :=
  issuesC_of_start hexec howned.1 ((ownerGuard_of_owned howned.2).trans hbody) hport hqueue hends
    hmarks

end Ends

/-! ### Staging registers and backlight -/

/-- Settles O9. Each access is the owner restriction before a rule that stores or returns the word. -/
theorem stagingRegisters : Obligations.StagingRegisters := by
  constructor
  · intro s v howned
    exact ⟨answersC_of_linkWrite rfl howned rfl rfl, answersC_of_linkWrite rfl howned rfl rfl,
      answersC_of_linkWrite rfl howned rfl rfl, answersC_of_linkWrite rfl howned rfl rfl,
      answersC_of_linkWrite rfl howned rfl rfl, answersC_of_linkRead rfl howned,
      answersC_of_linkRead rfl howned,
      answersC_of_linkRead (f := fun s => zextHalf (lowHalf s.fillColor)) rfl howned,
      answersC_of_linkRead rfl howned, answersC_of_linkRead rfl howned⟩
  · intro s v hready hen
    exact ⟨raisesC_linkWrite rfl hready hen, raisesC_linkRead rfl hready hen,
      raisesC_linkWrite rfl hready hen, raisesC_linkRead rfl hready hen,
      raisesC_linkWrite rfl hready hen, raisesC_linkRead rfl hready hen,
      raisesC_linkWrite rfl hready hen, raisesC_linkRead rfl hready hen,
      raisesC_linkWrite rfl hready hen, raisesC_linkRead rfl hready hen⟩

theorem zextBool_eq (b : Bool) : zextBool b = if b then 1 else 0 := by cases b <;> rfl

/-- Settles O11. The write's one event is its operation's last; no guard stands before either access. -/
theorem backlightRegister : Obligations.BacklightRegister := by
  intro s v hready
  constructor
  · rw [← zextBool_eq]
    exact answersC_of_done (isRead := true) rfl hready rfl rfl
  · exact issuesC_of_start (q := []) (last := plain (.bl (v.getLsbD 0))) rfl hready rfl rfl rfl
      (by simp) rfl

/-! ### The stream guard and the stream -/

/-- Settles O26. In each of the nine rules the guard stands first. -/
theorem streamGuard_faults : Obligations.StreamGuard := by
  intro s v howned hopen
  exact ⟨raisesC_of_streamOpen rfl howned hopen, raisesC_of_streamOpen rfl howned hopen,
    raisesC_of_streamOpen rfl howned hopen, raisesC_of_streamOpen rfl howned hopen,
    raisesC_of_streamOpen rfl howned hopen, raisesC_of_streamOpen rfl howned hopen,
    raisesC_of_streamOpen rfl howned hopen, raisesC_of_streamOpen rfl howned hopen,
    raisesC_of_streamOpen rfl howned hopen⟩

theorem linkPixel_of_open {s : State} (v : Word) (h : s.streamOpen = true) :
    linkPixel v s = .start s (half (lowHalf v)) := by simp [linkPixel, h]

theorem linkPixel_of_closed {s : State} (v : Word) (h : s.streamOpen = false) :
    linkPixel v s = .trap ⟨.streamNotOpen, 0x0058⟩ := by simp [linkPixel, h]

theorem linkStreamEnd_of_open {s : State} (h : s.streamOpen = true) :
    linkStreamEnd s = .start { s with streamOpen := false } [streamCloseItem] := by
  simp [linkStreamEnd, h]

theorem linkStreamEnd_of_closed {s : State} (h : s.streamOpen = false) :
    linkStreamEnd s = .trap ⟨.streamNotOpen, 0x005C⟩ := by simp [linkStreamEnd, h]

theorem highByte_lowHalf (v : Word) : highByte (lowHalf v) = v.extractLsb' 8 8 := by
  apply BitVec.eq_of_toNat_eq
  rw [highByte, lowHalf, field_toNat, field_toNat, field_toNat]
  omega

theorem lowByte_lowHalf (v : Word) : lowByte (lowHalf v) = v.extractLsb' 0 8 := by
  apply BitVec.eq_of_toNat_eq
  rw [lowByte, lowHalf, field_toNat, field_toNat, field_toNat]
  omega

/-- Settles O20. Outside a stream only begin passes its check, inside only the pixel and the end do. -/
theorem pixelStream : Obligations.PixelStream := by
  intro s v howned
  refine ⟨fun hclosed => ⟨?begin, ?noPixel, ?noEnd⟩, fun hopen => ⟨?noBegin, ?pixel, ?close⟩⟩
  case begin =>
    exact issuesC_of_owned (q := []) (last := streamOpenItem) rfl howned
      (streamGuard_of_closed hclosed) rfl rfl (by simp) rfl
  case noPixel => exact raisesC_of_owned rfl howned (linkPixel_of_closed v hclosed)
  case noEnd => exact raisesC_of_owned rfl howned (linkStreamEnd_of_closed hclosed)
  case noBegin => exact raisesC_of_streamOpen rfl howned hopen
  case pixel =>
    rw [← highByte_lowHalf, ← lowByte_lowHalf]
    exact issuesC_of_owned (q := [plain (.dat (highByte (lowHalf v)))])
      (last := plain (.dat (lowByte (lowHalf v)))) rfl howned (linkPixel_of_open v hopen) rfl rfl
      (by simp [plain]) rfl
  case close =>
    exact issuesC_of_owned (q := []) (last := streamCloseItem) rfl howned
      (linkStreamEnd_of_open hopen) rfl rfl (by simp) rfl

/-! ### Windows -/

theorem lowHalf_append (hi lo : Half) : lowHalf (hi ++ lo) = lo := by
  apply BitVec.eq_of_toNat_eq
  have := lo.isLt
  rw [lowHalf, field_toNat, append_toNat]
  omega

theorem highHalf_append (hi lo : Half) : highHalf (hi ++ lo) = hi := by
  apply BitVec.eq_of_toNat_eq
  have := lo.isLt
  have := hi.isLt
  rw [highHalf, field_toNat, append_toNat]
  omega

section Check

variable {cfg : Params} {cs ce rs re : Nat}

theorem checkWindow_of_inside (hc : cs ≤ ce) (hr : rs ≤ re) (hw : ce < cfg.panelW)
    (hh : re < cfg.panelH) : checkWindow cfg cs ce rs re = none := by
  rw [checkWindow, if_neg (by omega), if_neg (by omega)]

theorem checkWindow_of_inverted (h : ce < cs ∨ re < rs) :
    checkWindow cfg cs ce rs re = some .windowInverted := if_pos h

theorem checkWindow_of_outside (hc : cs ≤ ce) (hr : rs ≤ re)
    (h : cfg.panelW ≤ ce ∨ cfg.panelH ≤ re) : checkWindow cfg cs ce rs re = some .windowRange := by
  rw [checkWindow, if_neg (by omega), if_pos h]

end Check

/-- The entries of a window are plain: none completes an operation. -/
theorem windowEvents_plain {cs ce rs re : Half} {x : QItem} (hx : x ∈ windowEvents cs ce rs re) :
    x.ends = none ∧ x.endsInit = false :=
  ⟨by simpa using List.all_eq_true.1 (windowEvents_ends cs ce rs re) x hx,
    by simpa using List.all_eq_true.1 (windowEvents_endsInit cs ce rs re) x hx⟩

/-- An owner's write whose rule sends a window alone. -/
theorem issuesC_window {s s' : State} {i : Instr} {off : Half} {body : State → Effect}
    {cs ce rs re : Half}
    (hexec : exec i s = .next (s.linkWrite off i body)) (howned : s.OwnedByC)
    (hbody : body s = .start s' (windowEvents cs ce rs re))
    (hport : s'.portC = s.portC) (hqueue : s'.opQueue = s.opQueue) :
    IssuesC i s s' (windowWire cs ce rs re) :=
  issuesC_of_owned (q := (windowEvents cs ce rs re).dropLast) (last := plain (.cs true)) hexec howned
    hbody hport hqueue (fun _ hx => windowEvents_plain (List.mem_of_mem_dropLast hx)) rfl

section Address

variable {s : State} {x y : Half}

/-- R157: a cell inside the panel is a window of its own. -/
theorem linkSetAddress_of_inside (hclosed : s.streamOpen = false) (hw : x.toNat < s.cfg.panelW)
    (hh : y.toNat < s.cfg.panelH) :
    linkSetAddress (y ++ x) s = .start (s.stageWindow x x y y) (windowEvents x x y y) := by
  rw [linkSetAddress, streamGuard_of_closed hclosed]
  simp only [lowHalf_append, highHalf_append,
    checkWindow_of_inside (Nat.le_refl _) (Nat.le_refl _) hw hh]

theorem linkSetAddress_of_outside (hclosed : s.streamOpen = false)
    (hout : s.cfg.panelW ≤ x.toNat ∨ s.cfg.panelH ≤ y.toNat) :
    linkSetAddress (y ++ x) s = .trap ⟨.windowRange, 0x0050⟩ := by
  rw [linkSetAddress, streamGuard_of_closed hclosed]
  simp only [lowHalf_append, highHalf_append,
    checkWindow_of_outside (Nat.le_refl _) (Nat.le_refl _) hout]

end Address

section Apply

variable {s : State} {cs ce rs re : Half} (hclosed : s.streamOpen = false)
  (hcol : s.winCol = ce ++ cs) (hrow : s.winRow = re ++ rs)

include hclosed hcol hrow

/-- R156: the staged window, or the fault of the first check that fails. -/
theorem linkWinApply_of_inside (hc : cs.toNat ≤ ce.toNat) (hr : rs.toNat ≤ re.toNat)
    (hw : ce.toNat < s.cfg.panelW) (hh : re.toNat < s.cfg.panelH) :
    linkWinApply s = .start s (windowEvents cs ce rs re) := by
  rw [linkWinApply, streamGuard_of_closed hclosed, hcol, hrow]
  simp only [lowHalf_append, highHalf_append, checkWindow_of_inside hc hr hw hh]

theorem linkWinApply_of_inverted (h : ce.toNat < cs.toNat ∨ re.toNat < rs.toNat) :
    linkWinApply s = .trap ⟨.windowInverted, 0x004C⟩ := by
  rw [linkWinApply, streamGuard_of_closed hclosed, hcol, hrow]
  simp only [lowHalf_append, highHalf_append, checkWindow_of_inverted h]

theorem linkWinApply_of_outside (hc : cs.toNat ≤ ce.toNat) (hr : rs.toNat ≤ re.toNat)
    (hout : s.cfg.panelW ≤ ce.toNat ∨ s.cfg.panelH ≤ re.toNat) :
    linkWinApply s = .trap ⟨.windowRange, 0x004C⟩ := by
  rw [linkWinApply, streamGuard_of_closed hclosed, hcol, hrow]
  simp only [lowHalf_append, highHalf_append, checkWindow_of_outside hc hr hout]

end Apply

/-- Settles O18. The window's check decides between the three frames and the two faults; the window of
one cell is not inverted. -/
theorem windowOperations : Obligations.WindowOperations := by
  rintro s v cs ce rs re x y howned hclosed hcol hrow rfl
  refine ⟨fun hc hr hw hh => ?apply, fun hinv => ?inverted, fun hc hr hout => ?outside,
    fun hw hh => ?address, fun hout => ?addressOutside⟩
  case apply =>
    exact issuesC_window rfl howned (linkWinApply_of_inside hclosed hcol hrow hc hr hw hh) rfl rfl
  case inverted => exact raisesC_of_owned rfl howned (linkWinApply_of_inverted hclosed hcol hrow hinv)
  case outside =>
    exact raisesC_of_owned rfl howned (linkWinApply_of_outside hclosed hcol hrow hc hr hout)
  case address =>
    exact issuesC_window rfl howned (linkSetAddress_of_inside hclosed hw hh) rfl rfl
  case addressOutside => exact raisesC_of_owned rfl howned (linkSetAddress_of_outside hclosed hout)

/-! ### Initialization -/

/-- The entries of InitSequence before its last are plain (R152, R153). -/
theorem initSequence_plain {cfg : Params} {x : QItem} (hx : x ∈ (initSequence cfg).dropLast) :
    x.ends = none ∧ x.endsInit = false := by
  have hall : (initSequence cfg).dropLast.all (fun x => x.ends = none ∧ x.endsInit = false) = true :=
    rfl
  simpa using List.all_eq_true.1 hall x hx

/-- Settles O19. The rule's list is InitSequence, whose last entry alone is not plain. -/
theorem initializeQueuesItsSequence : Obligations.InitializeQueuesItsSequence := by
  intro s v howned hclosed
  exact issuesC_of_owned (q := (initSequence s.cfg).dropLast)
    (last := { ev := .wait 120, endsInit := true }) rfl howned
    (streamGuard_of_closed hclosed) rfl rfl (fun _ hx => initSequence_plain hx) rfl

/-! ### A window and its stream -/

/-- The entries of a stream frame before its last. -/
def streamInit (colors : List Half) : List QItem := streamOpenItem :: colors.flatMap half

theorem streamEvents_split (colors : List Half) :
    streamEvents colors = streamInit colors ++ [streamCloseItem] := rfl

theorem streamInit_plain {colors : List Half} {x : QItem} (hx : x ∈ streamInit colors) :
    x.ends = none ∧ x.endsInit = false := by
  have hmem : x ∈ streamEvents colors := List.mem_append_left _ hx
  exact ⟨by simpa using List.all_eq_true.1 (streamEvents_ends colors) x hmem,
    by simpa using List.all_eq_true.1 (streamEvents_endsInit colors) x hmem⟩

/-- An owner's write whose rule sends a window and streams colours into it. -/
theorem issuesC_windowStream {s s' : State} {i : Instr} {off : Half} {body : State → Effect}
    {cs ce rs re : Half} {colors : List Half}
    (hexec : exec i s = .next (s.linkWrite off i body)) (howned : s.OwnedByC)
    (hbody : body s = .start s' (windowEvents cs ce rs re ++ streamEvents colors))
    (hport : s'.portC = s.portC) (hqueue : s'.opQueue = s.opQueue) :
    IssuesC i s s' (windowWire cs ce rs re) (streamWire colors) := by
  rw [streamEvents_split, ← List.append_assoc] at hbody
  refine issuesC_of_owned hexec howned hbody hport hqueue (fun x hx => ?plain) ?marks
  case plain => exact (List.mem_append.1 hx).elim windowEvents_plain streamInit_plain
  case marks =>
    rw [List.append_assoc, ← streamEvents_split, List.map_append, windowEvents_marks,
      streamEvents_marks]

section Fill

variable {s : State} {x y w h : Half}

/-- R164: a rectangle with a zero side. -/
theorem linkFillGo_of_empty (hclosed : s.streamOpen = false) (hwh : s.fillWH = h ++ w)
    (hempty : w.toNat = 0 ∨ h.toNat = 0) :
    linkFillGo s = .trap ⟨.windowInverted, 0x006C⟩ := by
  rw [linkFillGo, streamGuard_of_closed hclosed, hwh]
  simp only [lowHalf_append, highHalf_append, if_pos hempty]

/-- R149, R164: a rectangle that leaves the panel. -/
theorem linkFillGo_of_outside (hclosed : s.streamOpen = false) (hxy : s.fillXY = y ++ x)
    (hwh : s.fillWH = h ++ w) (hw : w.toNat ≠ 0) (hh : h.toNat ≠ 0)
    (hout : s.cfg.panelW < x.toNat + w.toNat ∨ s.cfg.panelH < y.toNat + h.toNat) :
    linkFillGo s = .trap ⟨.windowRange, 0x006C⟩ := by
  have hcheck : checkWindow s.cfg x.toNat (x.toNat + w.toNat - 1) y.toNat (y.toNat + h.toNat - 1) =
      some .windowRange := checkWindow_of_outside (by omega) (by omega) (by omega)
  rw [linkFillGo, streamGuard_of_closed hclosed, hxy, hwh]
  simp only [lowHalf_append, highHalf_append, if_neg (not_or.2 ⟨hw, hh⟩), hcheck]

/-- R164: a rectangle inside the panel. -/
theorem linkFillGo_of_inside (hclosed : s.streamOpen = false) (hxy : s.fillXY = y ++ x)
    (hwh : s.fillWH = h ++ w) (hw : w.toNat ≠ 0) (hh : h.toNat ≠ 0)
    (hright : x.toNat + w.toNat ≤ s.cfg.panelW) (hbottom : y.toNat + h.toNat ≤ s.cfg.panelH) :
    linkFillGo s =
      .start
        (s.stageWindow x (truncHalf (x.toNat + w.toNat - 1)) y (truncHalf (y.toNat + h.toNat - 1)))
        (windowEvents x (truncHalf (x.toNat + w.toNat - 1)) y (truncHalf (y.toNat + h.toNat - 1)) ++
          streamEvents (List.replicate (w.toNat * h.toNat) (lowHalf s.fillColor))) := by
  have hcheck : checkWindow s.cfg x.toNat (x.toNat + w.toNat - 1) y.toNat (y.toNat + h.toNat - 1) =
      none := checkWindow_of_inside (by omega) (by omega) (by omega) (by omega)
  rw [linkFillGo, streamGuard_of_closed hclosed, hxy, hwh]
  simp only [lowHalf_append, highHalf_append, if_neg (not_or.2 ⟨hw, hh⟩), hcheck]

end Fill

/-- Settles O21. A zero side is looked at first, and then the window's check; the end of a rectangle is
exact, so it is outside exactly when the sum leaves the panel. -/
theorem fillOperation : Obligations.FillOperation := by
  rintro s v x y w h c howned hclosed hxy hwh rfl
  refine ⟨fun hw hh hright hbottom => ?inside, fun hempty => ?empty, fun hw hh hout => ?outside⟩
  case inside =>
    exact issuesC_windowStream rfl howned
      (linkFillGo_of_inside hclosed hxy hwh hw hh hright hbottom) rfl rfl
  case empty => exact raisesC_of_owned rfl howned (linkFillGo_of_empty hclosed hwh hempty)
  case outside =>
    exact raisesC_of_owned rfl howned (linkFillGo_of_outside hclosed hxy hwh hw hh hout)

/-! ### A buffered row -/

section Row

variable {s : State}

/-- R170: what mapping an element gives, case by case. -/
theorem mapElement_of_unwritten {i : Nat} (h : s.linebuf.read i = none) :
    mapElement s i = .error ⟨.uninitRead, elementOffset i⟩ := by
  simp [mapElement, h]

theorem mapElement_of_reserved {i : Nat} {e : Byte} (h : s.linebuf.read i = some e)
    (hres : elementReserved e ≠ 0) : mapElement s i = .error ⟨.paletteIndex, elementOffset i⟩ := by
  simp only [mapElement, h, if_pos hres]

theorem mapElement_of_noEntry {i : Nat} {e : Byte} (h : s.linebuf.read i = some e)
    (hres : elementReserved e = 0) (hentry : s.palette.read (paletteIndex e).toNat = none) :
    mapElement s i = .error ⟨.uninitRead, entryOffset (paletteIndex e).toNat⟩ := by
  simp only [mapElement, h, if_neg (not_not.2 hres), hentry]

theorem mapElement_of_entry {i : Nat} {e : Byte} {c : Half} (h : s.linebuf.read i = some e)
    (hres : elementReserved e = 0) (hentry : s.palette.read (paletteIndex e).toNat = some c) :
    mapElement s i = .ok c := by
  simp only [mapElement, h, if_neg (not_not.2 hres), hentry]

/-- An element that maps has a colour. -/
theorem State.Maps.mapElement {i : Nat} (h : s.Maps i) : ∃ c, mapElement s i = .ok c := by
  obtain ⟨e, c, hread, hres, hentry⟩ := h
  exact ⟨c, mapElement_of_entry hread hres hentry⟩

/-- A row whose elements all map gives their colours in order (R170). -/
theorem mapRowFrom_eq_ok {i : Nat} {colors : List Half}
    (h : ∀ j c, colors[j]? = some c → mapElement s (i + j) = .ok c) :
    mapRowFrom s i colors.length = .ok colors := by
  induction colors generalizing i with
  | nil => rfl
  | cons c colors ih =>
    have hhead : mapElement s i = .ok c := h 0 c rfl
    have htail : mapRowFrom s (i + 1) colors.length = .ok colors := ih fun j c hj => by
      rw [Nat.add_assoc, Nat.add_comm 1]
      exact h (j + 1) c hj
    simp [mapRowFrom, hhead, htail]

/-- The first element that does not map stops the row (R170). -/
theorem mapRowFrom_eq_error {i n k : Nat} {t : Trap} (hk : k < n)
    (hmap : ∀ j, j < k → s.Maps (i + j)) (h : mapElement s (i + k) = .error t) :
    mapRowFrom s i n = .error t := by
  induction n generalizing i k with
  | zero => omega
  | succ n ih =>
    cases k with
    | zero => simp [mapRowFrom, show mapElement s i = .error t from h]
    | succ k =>
      obtain ⟨c, hhead⟩ := State.Maps.mapElement (hmap 0 (by omega))
      have htail : mapRowFrom s (i + 1) n = .error t := by
        refine ih (k := k) (by omega) (fun j hj => ?_) ?_
        · rw [Nat.add_assoc, Nat.add_comm 1]
          exact hmap (j + 1) (by omega)
        · rwa [Nat.add_assoc, Nat.add_comm 1]
      simp [mapRowFrom, show mapElement s i = .ok c from hhead, htail]

theorem mapRow_eq_error {i : Nat} {t : Trap} (hi : i < s.cfg.lineW)
    (hmap : ∀ j, j < i → s.Maps j) (h : mapElement s i = .error t) : mapRow s = .error t :=
  mapRowFrom_eq_error hi (by simpa using hmap) (by simpa using h)

/-! The rule of C_DRAW_LINE (R169). -/

theorem linkDrawLine_of_free {v : Word} (hclosed : s.streamOpen = false) (hbusy : s.busy = false) :
    linkDrawLine v s = .trap ⟨.bufferNotOwned, 0x0080⟩ := by
  simp [linkDrawLine, streamGuard_of_closed hclosed, hbusy]

variable {v : Word} (hclosed : s.streamOpen = false) (hbusy : s.busy = true)

include hclosed hbusy

theorem linkDrawLine_of_rowRange (hrow : s.cfg.srcH ≤ (lowHalf v).toNat) :
    linkDrawLine v s = .trap ⟨.rowRange, 0x0080⟩ := by
  simp [linkDrawLine, streamGuard_of_closed hclosed, hbusy, hrow]

theorem linkDrawLine_of_unmapped {t : Trap} (hrow : (lowHalf v).toNat < s.cfg.srcH)
    (hmap : mapRow s = .error t) : linkDrawLine v s = .trap t := by
  simp [linkDrawLine, streamGuard_of_closed hclosed, hbusy, Nat.not_le.2 hrow, hmap]

theorem linkDrawLine_of_mapped {colors : List Half} (hrow : (lowHalf v).toNat < s.cfg.srcH)
    (hmap : mapRow s = .ok colors) :
    let cs := truncHalf s.cfg.x0
    let ce := truncHalf (s.cfg.x0 + s.cfg.lineW - 1)
    let r := truncHalf (s.cfg.y0 + (lowHalf v).toNat)
    linkDrawLine v s =
      .start (s.stageWindow cs ce r r) (windowEvents cs ce r r ++ streamEvents colors) := by
  simp [linkDrawLine, streamGuard_of_closed hclosed, hbusy, Nat.not_le.2 hrow, hmap]

end Row

/-- Settles O23. Every element maps, so the rule sends the row's window and streams the colours. -/
theorem drawLineStreamsTheMappedRow : Obligations.DrawLineStreamsTheMappedRow := by
  intro s v colors howned hclosed hbusy hrow hlen hcolors
  have hmap : mapRow s = .ok colors := by
    rw [mapRow, ← hlen]
    refine mapRowFrom_eq_ok fun j c hj => ?_
    obtain ⟨hj', -⟩ := List.getElem?_eq_some_iff.1 hj
    obtain ⟨e, hread, hres, hentry⟩ := hcolors j (hlen ▸ hj')
    rw [Nat.zero_add]
    exact mapElement_of_entry hread hres (hentry.trans hj)
  exact issuesC_windowStream rfl howned (linkDrawLine_of_mapped hclosed hbusy hrow hmap) rfl rfl

/-- Settles O24. The checks stand in this order in the rule, and the row stops at its first element that
does not map. -/
theorem drawLineFaults : Obligations.DrawLineFaults := by
  intro s v howned hclosed
  refine ⟨fun hbusy => ?free, fun hbusy hrow => ?rowRange, fun hbusy hrow i hi hmap => ?unmapped⟩
  case free => exact raisesC_of_owned rfl howned (linkDrawLine_of_free hclosed hbusy)
  case rowRange => exact raisesC_of_owned rfl howned (linkDrawLine_of_rowRange hclosed hbusy hrow)
  case unmapped =>
    have raised {t} (h : mapElement s i = .error t) :
        RaisesC (.wCDrawLine v) s t.code.byte t.off none :=
      raisesC_of_owned rfl howned
        (linkDrawLine_of_unmapped hclosed hbusy hrow (mapRow_eq_error hi hmap h))
    exact ⟨fun hread => raised (mapElement_of_unwritten hread),
      fun e hread hres => raised (mapElement_of_reserved hread hres),
      fun e hread hres hentry => raised (mapElement_of_noEntry hread hres hentry)⟩

end Sys2Proof.Machine
end

section
namespace Sys2Proof.Machine

/-! ## The pins and the engine -/

/-! ### The levels of a byte -/

/-- The eight pulses of a byte, most significant bit first (40_panellink.md R141). -/
theorem byteWave_eq (p : Pins) (dc : Bool) (b : Byte) :
    byteWave p dc b =
      [7, 6, 5, 4, 3, 2, 1, 0].flatMap fun j => bitPulse p dc (b.getLsbD j) := rfl

/-- After a byte DC is at its level, SCK at 0 and MOSI at the last bit (log 11). -/
theorem Pins.afterByte_eq (p : Pins) (dc : Bool) (b : Byte) :
    p.afterByte dc b = { p with dc := dc, sck := false, mosi := b.getLsbD 0 } := rfl

/-- Settles O37. Each pulse is a low and a high level with its bit on MOSI. -/
theorem byteIsShiftedMsbFirst : Obligations.ByteIsShiftedMsbFirst := by
  intro p dc b
  refine ⟨rfl, rfl, rfl, fun x hx => ?_, rfl, rfl⟩
  rw [byteWave_eq, List.mem_flatMap] at hx
  obtain ⟨j, -, hpulse⟩ := hx
  simp only [bitPulse, List.mem_cons, List.not_mem_nil, or_false] at hpulse
  rcases hpulse with rfl | rfl <;> exact ⟨rfl, rfl, rfl, rfl⟩

/-! ### What the panel makes of an event -/

/-- What a wire command makes of the record whose context its byte has ended (41_panel_receiver.md R208
to R221); every other operation leaves it. -/
def wireRecord (cfg : Params) : Instr → Option PanelRec → Option PanelRec
  | .swreset => fun k => some (resetKnown cfg k)
  | .slpin => Option.map ({ · with sleep := true })
  | .slpout => Option.map ({ · with sleep := false })
  | .noron => Option.map ({ · with normal := true })
  | .invoff => Option.map ({ · with invert := false })
  | .invon => Option.map ({ · with invert := true })
  | .dispoff => Option.map ({ · with displayOn := false })
  | .dispon => Option.map ({ · with displayOn := true })
  | .caset => Option.map ({ · with ctx := .params .caset [] })
  | .raset => Option.map ({ · with ctx := .params .raset [] })
  | .ramwr => Option.map fun r => { r with ctx := .memWrite none, cx := r.xs, cy := r.ys }
  | .madctl => Option.map ({ · with ctx := .params .madctl [] })
  | .idmoff => Option.map ({ · with idle := false })
  | .idmon => Option.map ({ · with idle := true })
  | .colmod => Option.map ({ · with ctx := .params .colmod [] })
  | _ => id

/-- What the panel makes of an event of the wire trace (R203 to R207). -/
def Panel.event (cfg : Params) (p : Panel) : WireEvent → Panel
  | .cmd b =>
    match decodeWire b with
    | .ok i => p.command (wireRecord cfg i)
    | .error _ => p.unknownCommand
  | ev => p.lineEvent cfg ev

theorem State.wireCommand_eq (s : State) (f : PanelRec → PanelRec) :
    s.wireCommand f = { s with panel := s.panel.command (Option.map f) } := by
  unfold State.wireCommand
  congr 2
  funext k
  cases k <;> rfl

/-- The meaning of a wire command changes the panel alone. -/
theorem exec_wireCommand {b : Byte} {i : Instr} (h : decodeWire b = .ok i) (s : State) :
    exec i s = .next { s with panel := s.panel.command (wireRecord s.cfg i) } := by
  unfold decodeWire at h
  split at h <;> cases h
  case h_1 => rfl
  all_goals exact congrArg Host.Outcome.next (s.wireCommand_eq _)

theorem Panel.event_cmd {cfg : Params} {b : Byte} {i : Instr} (p : Panel)
    (h : decodeWire b = .ok i) : p.event cfg (.cmd b) = p.command (wireRecord cfg i) := by
  simp only [Panel.event, h]

theorem Panel.event_unknown {cfg : Params} {b : Byte} {e : DecodeError} (p : Panel)
    (h : decodeWire b = .error e) : p.event cfg (.cmd b) = p.unknownCommand := by
  simp only [Panel.event, h]

theorem Panel.event_of_ne_cmd {cfg : Params} {ev : WireEvent} (p : Panel)
    (h : ∀ b, ev ≠ .cmd b) : p.event cfg ev = p.lineEvent cfg ev := by
  cases ev with
  | cmd b => exact absurd rfl (h b)
  | _ => rfl

/-! ### One step of the engine -/

/-- The state in which E has performed entry `q` and the panel has taken its event; `rest` is still
queued and `ts` are the turns to come. -/
def State.performed (s : State) (ts : List Turn) (q : QItem) (rest : List QItem) : State :=
  { ({ s with turns := ts, opQueue := rest } : State).perform q with
    panel := s.panel.event s.cfg q.ev }

/-- At its turn E performs the head of the op queue. -/
theorem step_performs {s : State} {q : QItem} {rest : List QItem} {ts : List Turn}
    (hready : s.readyHeld = none) (hf : s.faulted = false) (hturns : s.turns = .e :: ts)
    (hqueue : s.opQueue = q :: rest) :
    step s = .next (s.performed ts q rest) := by
  have hnext : ({ s with turns := ts } : State).nextItem =
      some (q, { s with turns := ts, opQueue := rest }) := State.nextItem_of_cons hf hqueue
  rw [step_of_turn hready hturns, stepTurn]
  rcases stepEngine_cases { s with turns := ts } with ⟨hnone, -⟩ | ⟨q', s', hsome, hcases⟩
  · rw [hnext] at hnone
    cases hnone
  · rw [hnext] at hsome
    cases hsome
    rcases hcases with ⟨b, i, hev, hdec, e⟩ | ⟨b, e', hev, hdec, e⟩ | ⟨hev, e⟩ <;> rw [e]
    · rw [exec_wireCommand hdec, State.performed, hev, Panel.event_cmd _ hdec]
      simp
    · rw [State.performed, hev, Panel.event_unknown _ hdec]
    · rw [State.performed, Panel.event_of_ne_cmd _ hev]

/-- What an entry's performance changes: the trace, the pins, INIT_DONE, and what it completes. -/
theorem State.perform_eq (s : State) (q : QItem) :
    s.perform q = { s with
      trace := s.trace ++ [q.ev]
      pins := s.pins.afterItem q
      initDone := s.initDone || q.endsInit
      portC := if q.ends = some .port then { s.portC with hold := none, answer := none } else s.portC
      phase := (s.perform q).phase } := by
  rcases hends : q.ends with _ | _ | _
  · simp [State.perform, State.operationDone, hends]
  · simp [State.perform, State.operationDone, hends, State.complete, State.setPort]
  · cases hp : s.phase <;>
      simp [State.perform, State.operationDone, hends, State.dispatcherDone, hp]

/-- An entry that completes no operation of D's leaves its phase. -/
theorem State.perform_phase_of_ne {s : State} {q : QItem} (h : q.ends ≠ some .disp) :
    (s.perform q).phase = s.phase := by
  rcases hends : q.ends with _ | _ | _
  · simp [State.perform, State.operationDone, hends]
  · simp [State.perform, State.operationDone, hends]
  · exact absurd hends h

/-- The last event of D's operation moves D to its next one, or to WAIT_CMD (R290). -/
theorem State.perform_phase_of_disp {s : State} {q : QItem} {w : Word} {k : Nat} {issued : Bool}
    (h : q.ends = some .disp) (hp : s.phase = .exec w k issued) :
    (s.perform q).phase = execPhase w (commandOps s.cfg w).length (k + 1) := by
  simp [State.perform, State.operationDone, h, State.dispatcherDone, hp]

/-- The levels after an entry: R158 drives DC first, and a byte drives it to its own level. -/
theorem Pins.afterItem_eq (p : Pins) (q : QItem) :
    p.afterItem q = ({ p with dc := p.dc || q.dataMode } : Pins).afterEvent q.ev := by
  unfold Pins.afterItem
  cases hq : q.dataMode <;> simp

/-- EXEC(w, k) up to the last operation, WAIT_CMD behind it (R290). -/
theorem execPhase_eq (w : Word) (n k : Nat) :
    execPhase w n k = if k < n then .exec w k false else .waitCmd := by
  simp only [execPhase, ← Nat.not_lt, ite_not]

/-- A byte outside the table of R200 decodes to nothing. -/
theorem decodeWire_of_unlisted {b : Byte} (h : ∀ i, encode i ≠ .wire b) :
    ∃ e, decodeWire b = .error e := by
  cases hdec : decodeWire b with
  | ok i => exact absurd (decodeWire_eq_ok hdec).1 (h i)
  | error e => exact ⟨e, rfl⟩

/-- Settles O36. The performed entry gives the trace, the pins and what is completed; its event gives the
panel. -/
theorem enginePerformsTheHead : Obligations.EnginePerformsTheHead := by
  intro s q rest ts hready hf hturns hqueue dc
  have hpins : s.pins.afterItem q = ({ s.pins with dc := dc } : Pins).afterEvent q.ev :=
    s.pins.afterItem_eq q
  refine ⟨_, step_performs hready hf hturns hqueue, ?state, fun hends => ?otherPhase,
    fun hends w k issued hphase => ?nextPhase, fun l hev => ?cs, fun l hev => ?rst, fun l hev => ?bl,
    fun n hev => ?wait, fun b hev => ?dat, fun b hev => ?cmd⟩
  case state => rw [State.performed, State.perform_eq]
  case otherPhase => exact State.perform_phase_of_ne hends
  case nextPhase =>
    rw [← execPhase_eq]
    exact State.perform_phase_of_disp (s := { s with turns := ts, opQueue := rest }) hends hphase
  case cs | rst | bl | wait | dat =>
    simp [State.performed, hpins, hev, Pins.afterEvent, Pins.afterByte_eq, Panel.event,
      Panel.lineEvent]
  case cmd =>
    refine ⟨by simp [State.performed, hpins, hev, Pins.afterEvent, Pins.afterByte_eq],
      fun hunlisted => ?_⟩
    obtain ⟨e, hdec⟩ := decodeWire_of_unlisted hunlisted
    rw [State.performed, hev, Panel.event_unknown _ hdec]
    rfl

end Sys2Proof.Machine
end

section
namespace Sys2Proof.Machine

/-! ## Runs of the engine -/

section Performed

variable (s : State) (ts : List Turn) (q : QItem) (rest : List QItem)

@[simp] theorem State.performed_cfg : (s.performed ts q rest).cfg = s.cfg := by
  simp [State.performed]

@[simp] theorem State.performed_turns : (s.performed ts q rest).turns = ts := by
  simp [State.performed]

@[simp] theorem State.performed_opQueue : (s.performed ts q rest).opQueue = rest := by
  simp [State.performed]

@[simp] theorem State.performed_portP : (s.performed ts q rest).portP = s.portP := by
  simp [State.performed]

@[simp] theorem State.performed_faulted : (s.performed ts q rest).faulted = s.faulted := by
  simp [State.performed, State.faulted]

@[simp] theorem State.performed_trace : (s.performed ts q rest).trace = s.trace ++ [q.ev] := by
  simp [State.performed]

@[simp] theorem State.performed_initDone :
    (s.performed ts q rest).initDone = (s.initDone || q.endsInit) := by
  simp [State.performed]

@[simp] theorem State.performed_panel :
    (s.performed ts q rest).panel = s.panel.event s.cfg q.ev := rfl

theorem State.performed_hold :
    (s.performed ts q rest).portC.hold = if q.ends = some .port then none else s.portC.hold := by
  show (State.perform _ q).portC.hold = _
  rw [State.perform_portC]
  split <;> rfl

end Performed

/-- What a run of E's turns from `s` over its whole queue `q` leaves: the events in the trace, what the
panel makes of them, and what the entries complete. -/
structure EngineRun (s : State) (q : List QItem) (t : State) : Prop where
  queue : t.opQueue = []
  trace : t.trace = s.trace ++ q.map (·.ev)
  panel : t.panel = (q.map (·.ev)).foldl (Panel.event s.cfg) s.panel
  initDone : (s.initDone = true ∨ ∃ x ∈ q, x.endsInit = true) → t.initDone = true
  free : (s.portC.hold = none ∨ ∃ x ∈ q, x.ends = some .port) → t.portC.hold = none

theorem run_succ {s s' : State} {n : Nat} (h : step s = .next s') :
    Host.Core.run Sys2Proof.core (n + 1) s = Host.Core.run Sys2Proof.core n s' := by
  have hcore : Sys2Proof.core.step s = .next s' := h
  simp only [Host.Core.run, hcore]

/-- As many turns of E as the queue has entries perform them all, in order. -/
theorem run_performs {s : State} {q : List QItem} (hqueue : s.opQueue = q)
    (hturns : s.turns = List.replicate q.length .e) (hf : s.faulted = false)
    (hp : s.portP.hold = none) (hc : s.portC.hold = none ∨ s.portC.hold = some .link) :
    ∃ t, Host.Core.run Sys2Proof.core q.length s = .next t ∧ EngineRun s q t := by
  induction q generalizing s with
  | nil => exact ⟨s, rfl, hqueue, by simp, rfl, by simp, by simp⟩
  | cons a q ih =>
    have hstep := step_performs (State.readyHeld_none (.inl hp) hc) hf hturns hqueue
    obtain ⟨t, hrun, ht⟩ := ih (s := s.performed (List.replicate q.length .e) a q) (by simp) (by simp)
      (by simpa using hf) (by simpa using hp) (by rw [State.performed_hold]; split <;> simp [hc])
    refine ⟨t, ?run, ht.queue, ?trace, ?panel, fun h => ht.initDone ?initDone,
      fun h => ht.free ?free⟩
    case run =>
      rw [List.length_cons, run_succ hstep]
      exact hrun
    case trace => simp [ht.trace]
    case panel => simp [ht.panel]
    case initDone =>
      simp only [List.mem_cons, exists_eq_or_imp] at h
      rcases h with h | h | h
      · simp [h]
      · simp [h]
      · exact .inr h
    case free =>
      simp only [List.mem_cons, exists_eq_or_imp] at h
      rw [State.performed_hold]
      rcases h with h | h | h
      · exact .inl (by simp [h])
      · exact .inl (by simp [h])
      · exact .inr h

end Sys2Proof.Machine
end

section
namespace Sys2Proof.Machine

/-! ## What a window and its stream do to the panel -/

/-! ### The cells of a window, row-major -/

/-- The cell (col, row) lies in the record's window. -/
abbrev PanelRec.Covers (r : PanelRec) (col row : Half) : Prop :=
  r.xs.toNat ≤ col.toNat ∧ col.toNat ≤ r.xe.toNat ∧ r.ys.toNat ≤ row.toNat ∧ row.toNat ≤ r.ye.toNat

/-- The place of a cell of the window in row-major order (41_panel_receiver.md R215). -/
def PanelRec.place (r : PanelRec) (col row : Half) : Nat :=
  (row.toNat - r.ys.toNat) * (r.xe.toNat - r.xs.toNat + 1) + (col.toNat - r.xs.toNat)

/-- The number of cells of the window. -/
def PanelRec.area (r : PanelRec) : Nat :=
  (r.xe.toNat - r.xs.toNat + 1) * (r.ye.toNat - r.ys.toNat + 1)

theorem rowMajor_lt {a b m n : Nat} (ha : a < m) (hb : b < n) : b * m + a < m * n := by
  calc b * m + a < (b + 1) * m := by rw [Nat.add_mul, Nat.one_mul]; omega
    _ ≤ n * m := Nat.mul_le_mul_right m hb
    _ = m * n := Nat.mul_comm n m

theorem PanelRec.place_lt_area {r : PanelRec} {col row : Half} (h : r.Covers col row) :
    r.place col row < r.area := by
  obtain ⟨hxs, hxe, hys, hye⟩ := h
  exact rowMajor_lt (by omega) (by omega)

/-- Different cells of the window have different places. -/
theorem PanelRec.place_inj {r : PanelRec} {col row col' row' : Half} (h : r.Covers col row)
    (h' : r.Covers col' row') (heq : r.place col row = r.place col' row') :
    col = col' ∧ row = row' := by
  obtain ⟨hxs, hxe, hys, hye⟩ := h
  obtain ⟨hxs', hxe', hys', hye'⟩ := h'
  have hcol : col.toNat - r.xs.toNat < r.xe.toNat - r.xs.toNat + 1 := by omega
  have hcol' : col'.toNat - r.xs.toNat < r.xe.toNat - r.xs.toNat + 1 := by omega
  have hmod := congrArg (· % (r.xe.toNat - r.xs.toNat + 1)) heq
  have hdiv := congrArg (· / (r.xe.toNat - r.xs.toNat + 1)) heq
  simp only [PanelRec.place, Nat.mul_comm _ (r.xe.toNat - r.xs.toNat + 1), Nat.mul_add_mod,
    Nat.mod_eq_of_lt hcol, Nat.mod_eq_of_lt hcol'] at hmod
  simp only [PanelRec.place, Nat.mul_comm _ (r.xe.toNat - r.xs.toNat + 1),
    Nat.mul_add_div (Nat.succ_pos _), Nat.div_eq_of_lt hcol, Nat.div_eq_of_lt hcol'] at hdiv
  exact ⟨BitVec.eq_of_toNat_eq (by omega), BitVec.eq_of_toNat_eq (by omega)⟩

/-- Columns have 16 bits, so different cells have different indices (log 21). -/
theorem cellIndex_inj {col row col' row' : Half} :
    cellIndex col row = cellIndex col' row' ↔ col = col' ∧ row = row' := by
  constructor
  · intro h
    have := col.isLt
    have := col'.isLt
    simp only [cellIndex] at h
    exact ⟨BitVec.eq_of_toNat_eq (by omega), BitVec.eq_of_toNat_eq (by omega)⟩
  · rintro ⟨rfl, rfl⟩
    rfl

/-! ### The pixels of a stream -/

/-- A pixel is stored at the cursor, which then moves on (R215). -/
def PanelRec.pixel (r : PanelRec) (c : Half) : PanelRec :=
  PanelRec.advance { r with gram := r.gram.write (cellIndex r.cx r.cy) c, ctx := .memWrite none }

/-- The cursor's move changes the cursor alone. -/
theorem PanelRec.advance_eq (r : PanelRec) :
    r.advance = { r with cx := r.advance.cx, cy := r.advance.cy } := by
  unfold PanelRec.advance
  split <;> rfl

/-- The cursor stands at place `k` of the window, or the window is full. -/
def PanelRec.AtPlace (r : PanelRec) (k : Nat) : Prop :=
  k < r.area → r.Covers r.cx r.cy ∧ r.place r.cx r.cy = k

theorem half_succ_toNat {a b : Half} (h : a.toNat < b.toNat) : (a + 1).toNat = a.toNat + 1 := by
  have := b.isLt
  have hone : (1 : Half).toNat = 1 := rfl
  rw [BitVec.toNat_add, hone]
  omega

/-- The cursor moves to the next place: along the row, or from the end of one row to the start of the
next, which exists as the window is not full. -/
theorem PanelRec.AtPlace.advance {r : PanelRec} {k : Nat} (h : r.AtPlace k) :
    r.advance.AtPlace (k + 1) := by
  unfold PanelRec.advance
  split
  case isTrue hcol =>
    intro hk
    obtain ⟨⟨hxs, hxe, hys, hye⟩, hplace⟩ := h (Nat.lt_of_succ_lt hk)
    have hnext := half_succ_toNat hcol
    refine ⟨⟨by simp only [hnext]; omega, by simp only [hnext]; omega, hys, hye⟩, ?_⟩
    simp only [PanelRec.place, hnext] at hplace ⊢
    omega
  case isFalse hcol =>
    intro hk
    have hk' : k + 1 < (r.xe.toNat - r.xs.toNat + 1) * (r.ye.toNat - r.ys.toNat + 1) := hk
    obtain ⟨⟨hxs, hxe, hys, hye⟩, hplace⟩ := h (Nat.lt_of_succ_lt hk)
    have hend : k + 1 =
        (r.xe.toNat - r.xs.toNat + 1) * (r.cy.toNat - r.ys.toNat + 1) := by
      rw [← hplace, PanelRec.place, Nat.mul_comm _ (r.xe.toNat - r.xs.toNat + 1), Nat.mul_add]
      omega
    have hrow : r.cy.toNat < r.ye.toNat := by
      rw [hend] at hk'
      have := Nat.lt_of_mul_lt_mul_left hk'
      omega
    have hnext := half_succ_toNat hrow
    have hrows : r.cy.toNat + 1 - r.ys.toNat = r.cy.toNat - r.ys.toNat + 1 := by omega
    rw [if_pos hrow]
    refine ⟨⟨Nat.le_refl _, by simp only; omega, by simp only [hnext]; omega,
      by simp only [hnext]; omega⟩, ?_⟩
    simp only [PanelRec.place, hnext, hrows, Nat.sub_self, Nat.add_zero]
    rw [hend, Nat.mul_comm]

/-- A pixel leaves the window and the colour mode, and waits for the next pixel. -/
theorem PanelRec.pixel_eq (r : PanelRec) (c : Half) :
    r.pixel c = { r with
      cx := (r.pixel c).cx
      cy := (r.pixel c).cy
      gram := r.gram.write (cellIndex r.cx r.cy) c
      ctx := .memWrite none } := by
  rw [PanelRec.pixel, PanelRec.advance_eq]

theorem PanelRec.pixel_place (r : PanelRec) (c col row : Half) :
    (r.pixel c).place col row = r.place col row := by rw [PanelRec.pixel_eq]; rfl

theorem PanelRec.pixel_covers (r : PanelRec) (c col row : Half) :
    (r.pixel c).Covers col row ↔ r.Covers col row := by rw [PanelRec.pixel_eq]

theorem PanelRec.pixel_gram (r : PanelRec) (c col row : Half) :
    (r.pixel c).gram.read (cellIndex col row) =
      if r.cx = col ∧ r.cy = row then some c else r.gram.read (cellIndex col row) := by
  rw [PanelRec.pixel_eq]
  simp only [Memory.read_write, cellIndex_inj]

theorem PanelRec.AtPlace.pixel {r : PanelRec} {k : Nat} (h : r.AtPlace k) (c : Half) :
    (r.pixel c).AtPlace (k + 1) := by
  refine PanelRec.AtPlace.advance ?_
  exact h

/-- Pixels from place `k` on colour the cells of their places, and no other (R215). -/
theorem PanelRec.pixels_gram {colors : List Half} {r : PanelRec} {k : Nat} (h : r.AtPlace k)
    (hlen : k + colors.length ≤ r.area) (col row : Half) :
    (colors.foldl PanelRec.pixel r).gram.read (cellIndex col row) =
      if r.Covers col row ∧ k ≤ r.place col row ∧ r.place col row < k + colors.length
      then colors[r.place col row - k]? else r.gram.read (cellIndex col row) := by
  induction colors generalizing r k with
  | nil => rw [if_neg (by simp)]; rfl
  | cons c colors ih =>
    rw [List.length_cons] at hlen ⊢
    obtain ⟨hcursor, hk⟩ := h (by omega)
    have harea : (r.pixel c).area = r.area := by rw [PanelRec.pixel_eq]; rfl
    simp only [List.foldl_cons, ih (h.pixel c) (by omega), PanelRec.pixel_place,
      PanelRec.pixel_covers, PanelRec.pixel_gram]
    by_cases hcov : r.Covers col row
    · have hhere : r.cx = col ∧ r.cy = row ↔ r.place col row = k := by
        constructor
        · rintro ⟨rfl, rfl⟩
          exact hk
        · intro e
          exact PanelRec.place_inj hcursor hcov (hk.trans e.symm)
      simp only [hhere]
      rcases Nat.lt_trichotomy (r.place col row) k with hlt | heq | hgt
      · rw [if_neg (by omega), if_neg (by omega), if_neg (by omega)]
      · rw [if_neg (by omega), if_pos heq, if_pos (by omega), heq, Nat.sub_self]
        rfl
      · obtain ⟨j, hj⟩ := Nat.exists_eq_add_of_lt hgt
        rw [if_neg (c := _ = k) (by omega), hj, show k + j + 1 - (k + 1) = j by omega,
          show k + j + 1 - k = j + 1 by omega, List.getElem?_cons_succ]
        simp only [show k + 1 + colors.length = k + (colors.length + 1) by omega,
          show k + 1 ≤ k + j + 1 by omega, show k ≤ k + j + 1 by omega]
    · have hother : ¬ (r.cx = col ∧ r.cy = row) := by
        rintro ⟨rfl, rfl⟩
        exact hcov hcursor
      rw [if_neg (fun h => hcov h.1), if_neg hother, if_neg (fun h => hcov h.1)]

/-! ### The frames at the panel -/

theorem joinBytes_bytes (c : Half) : joinBytes (highByte c) (lowByte c) = c := by
  apply BitVec.eq_of_toNat_eq
  have := c.isLt
  rw [joinBytes, highByte, lowByte, append_toNat, field_toNat, field_toNat]
  omega

/-- What the data bytes `ds` make of a record. -/
def recordBytes (cfg : Params) (ds : List Byte) (k : Option PanelRec) : Option PanelRec :=
  ds.foldl (fun k b => k.bind (·.data cfg b)) k

/-- The panel out of reset, with this backlight and record. -/
def Panel.awake (bl : Bool) (k : Option PanelRec) : Panel := { inReset := false, bl := bl, known := k }

/-- The events of a command frame (40_panellink.md R142). -/
def frameWire (c : Byte) (ds : List Byte) : List WireEvent :=
  .cs false :: .cmd c :: (ds.map .dat ++ [.cs true])

/-- A window is three frames (R150). -/
theorem windowWire_eq (cs ce rs re : Half) :
    windowWire cs ce rs re =
      frameWire 0x2A [highByte cs, lowByte cs, highByte ce, lowByte ce] ++
        (frameWire 0x2B [highByte rs, lowByte rs, highByte re, lowByte re] ++ frameWire 0x2C []) :=
  rfl

section Frames

variable {cfg : Params} {bl : Bool} {k : Option PanelRec}

theorem Panel.event_dat_awake (b : Byte) :
    (Panel.awake bl k).event cfg (.dat b) = Panel.awake bl (k.bind (·.data cfg b)) := by
  cases k <;> rfl

/-- Data bytes go to the record. -/
theorem Panel.foldl_dat (ds : List Byte) :
    (ds.map .dat).foldl (Panel.event cfg) (Panel.awake bl k) =
      Panel.awake bl (recordBytes cfg ds k) := by
  induction ds generalizing k with
  | nil => rfl
  | cons d ds ih =>
    rw [List.map_cons, List.foldl_cons, Panel.event_dat_awake, ih]
    rfl

/-- The record once its context has ended, when it is short of no parameter byte (R207 step 1). -/
theorem PanelRec.endContext_of_complete {r : PanelRec} (h : ∀ cmd got, r.ctx ≠ .params cmd got) :
    r.endContext = some { r with ctx := .none } := by
  unfold PanelRec.endContext
  split
  case h_1 hctx => rw [← hctx]
  case h_2 => rfl
  case h_3 hctx => exact absurd hctx (h _ _)

/-- A command frame is its command and then its data bytes (R142). -/
theorem Panel.foldl_frame {c : Byte} {i : Instr} {r : PanelRec} (ds : List Byte)
    (hdec : decodeWire c = .ok i) (hctx : ∀ cmd got, r.ctx ≠ .params cmd got) :
    (frameWire c ds).foldl (Panel.event cfg) (Panel.awake bl (some r)) =
      Panel.awake bl (recordBytes cfg ds (wireRecord cfg i (some { r with ctx := .none }))) := by
  have hcmd : (Panel.awake bl (some r)).event cfg (.cmd c) =
      Panel.awake bl (wireRecord cfg i (some { r with ctx := .none })) := by
    rw [Panel.event_cmd _ hdec, ← PanelRec.endContext_of_complete hctx]
    rfl
  have hcs : ∀ (p : Panel) (l : Bool), p.event cfg (.cs l) = p := fun _ _ => rfl
  rw [frameWire, List.foldl_cons, List.foldl_cons, hcs, hcmd, List.foldl_append, Panel.foldl_dat]
  rfl

/-- A command frame whose command and data bytes make `r'` of a record that collects no parameters. -/
theorem Panel.foldl_frame_eq {c : Byte} {i : Instr} {r r' : PanelRec} {ds : List Byte}
    (hdec : decodeWire c = .ok i) (hctx : r.ctx = .none ∨ ∃ b, r.ctx = .memWrite b)
    (h : recordBytes cfg ds (wireRecord cfg i (some { r with ctx := .none })) = some r') :
    (frameWire c ds).foldl (Panel.event cfg) (Panel.awake bl (some r)) =
      Panel.awake bl (some r') := by
  rw [Panel.foldl_frame ds hdec ?_, h]
  rcases hctx with hctx | ⟨b, hctx⟩ <;> simp [hctx]

/-- Four parameter bytes of CASET set the columns (R219). -/
theorem recordBytes_caset {r : PanelRec} {cs ce : Half} (hctx : r.ctx = .params .caset [])
    (h : cs.toNat ≤ ce.toNat) (hw : ce.toNat < cfg.panelW) :
    recordBytes cfg [highByte cs, lowByte cs, highByte ce, lowByte ce] (some r) =
      some { r with xs := cs, xe := ce, ctx := .none } := by
  have hbad : ¬ (ce.toNat < cs.toNat ∨ cfg.panelW ≤ ce.toNat) := by omega
  simp [recordBytes, PanelRec.data, hctx, PanelRec.param, joinBytes_bytes, PanelRec.setColumns, hbad]

/-- Four parameter bytes of RASET set the rows (R219). -/
theorem recordBytes_raset {r : PanelRec} {rs re : Half} (hctx : r.ctx = .params .raset [])
    (h : rs.toNat ≤ re.toNat) (hh : re.toNat < cfg.panelH) :
    recordBytes cfg [highByte rs, lowByte rs, highByte re, lowByte re] (some r) =
      some { r with ys := rs, ye := re, ctx := .none } := by
  have hbad : ¬ (re.toNat < rs.toNat ∨ cfg.panelH ≤ re.toNat) := by omega
  simp [recordBytes, PanelRec.data, hctx, PanelRec.param, joinBytes_bytes, PanelRec.setRows, hbad]

/-- The record in a memory write at the first cell of this window (R214). -/
def PanelRec.writing (r : PanelRec) (cs ce rs re : Half) : PanelRec :=
  { r with xs := cs, xe := ce, ys := rs, ye := re, cx := cs, cy := rs, ctx := .memWrite none }

/-- A window's three frames set it, and start a memory write at its first cell (R150, R214, R219). -/
theorem Panel.foldl_windowWire {r : PanelRec} {cs ce rs re : Half}
    (hctx : ∀ cmd got, r.ctx ≠ .params cmd got) (hc : cs.toNat ≤ ce.toNat)
    (hr : rs.toNat ≤ re.toNat) (hw : ce.toNat < cfg.panelW) (hh : re.toNat < cfg.panelH) :
    (windowWire cs ce rs re).foldl (Panel.event cfg) (Panel.awake bl (some r)) =
      Panel.awake bl (some (r.writing cs ce rs re)) := by
  have hcaset : decodeWire 0x2A = .ok .caset := rfl
  have hraset : decodeWire 0x2B = .ok .raset := rfl
  have hramwr : decodeWire 0x2C = .ok .ramwr := rfl
  rw [windowWire_eq, List.foldl_append, List.foldl_append, Panel.foldl_frame _ hcaset hctx, wireRecord,
    Option.map_some, recordBytes_caset rfl hc hw, Panel.foldl_frame _ hraset (by simp), wireRecord,
    Option.map_some, recordBytes_raset rfl hr hh, Panel.foldl_frame _ hramwr (by simp)]
  rfl

/-- Two data bytes in a memory write are a pixel (R215). -/
theorem recordBytes_pixel {r : PanelRec} (hctx : r.ctx = .memWrite none)
    (hmode : r.colmod = cfg.colmod16bpp) (c : Half) :
    recordBytes cfg [highByte c, lowByte c] (some r) = some (r.pixel c) := by
  simp [recordBytes, PanelRec.data, hctx, PanelRec.pixelByte, hmode, joinBytes_bytes,
    PanelRec.pixel]

theorem recordBytes_append (ds ds' : List Byte) :
    recordBytes cfg (ds ++ ds') k = recordBytes cfg ds' (recordBytes cfg ds k) := List.foldl_append ..

/-- The bytes of a stream are its pixels, in order. -/
theorem recordBytes_pixels {r : PanelRec} (hctx : r.ctx = .memWrite none)
    (hmode : r.colmod = cfg.colmod16bpp) (colors : List Half) :
    recordBytes cfg (colors.flatMap fun c => [highByte c, lowByte c]) (some r) =
      some (colors.foldl PanelRec.pixel r) := by
  induction colors generalizing r with
  | nil => rfl
  | cons c colors ih =>
    rw [List.flatMap_cons, recordBytes_append, recordBytes_pixel hctx hmode, List.foldl_cons]
    exact ih (by rw [PanelRec.pixel_eq]) (by rw [PanelRec.pixel_eq]; exact hmode)

/-- A stream frame writes its pixels. -/
theorem Panel.foldl_streamWire {r : PanelRec} (hctx : r.ctx = .memWrite none)
    (hmode : r.colmod = cfg.colmod16bpp) (colors : List Half) :
    (streamWire colors).foldl (Panel.event cfg) (Panel.awake bl (some r)) =
      Panel.awake bl (some (colors.foldl PanelRec.pixel r)) := by
  have hbytes : (colors.flatMap fun c => [WireEvent.dat (highByte c), .dat (lowByte c)]) =
      (colors.flatMap fun c => [highByte c, lowByte c]).map .dat := by
    rw [List.map_flatMap]
    rfl
  rw [streamWire, hbytes, List.foldl_append, List.foldl_cons, ← recordBytes_pixels hctx hmode,
    ← Panel.foldl_dat]
  rfl

end Frames

end Sys2Proof.Machine
end

section
namespace Sys2Proof.Machine

/-! ## Whole operations at the panel -/

/-- E's turns over the whole queue of a block that is not faulted and whose ports wait for nothing but
the engine. -/
theorem run_engineTurns {s : State} (hf : s.faulted = false) (hp : s.portP.hold = none)
    (hc : s.portC.hold = none ∨ s.portC.hold = some .link) :
    ∃ t, Host.Core.run Sys2Proof.core s.opQueue.length (s.engineTurns s.opQueue.length) = .next t ∧
      EngineRun s s.opQueue t := by
  obtain ⟨t, hrun, ht⟩ := run_performs (s := s.engineTurns s.opQueue.length) rfl rfl hf hp hc
  exact ⟨t, hrun, ht.queue, ht.trace, ht.panel, ht.initDone, ht.free⟩

theorem streamMarks_fst (evs : List WireEvent) : (streamMarks evs).map (·.1) = evs := by
  cases evs <;> simp [streamMarks, Function.comp_def]

/-- The block in `u` has just issued an operation of C's that met an empty queue: the events `evs` are
queued, the last of them frees the port, and what E's turns read besides is that of `s'`. -/
structure IssuedAlone (s' u : State) (evs : List WireEvent) (inits : Bool) : Prop where
  cfg : u.cfg = s'.cfg
  faulted : u.faulted = s'.faulted
  portP : u.portP = s'.portP
  panel : u.panel = s'.panel
  hold : u.portC.hold = some .link
  events : u.opQueue.map (·.ev) = evs
  last : ∃ x ∈ u.opQueue, x.ends = some .port ∧ x.endsInit = inits

theorem IssuesC.alone {i : Instr} {s s' : State} {evs stream : List WireEvent} {inits : Bool}
    (h : IssuesC i s s' evs stream inits) (hempty : s.opQueue = []) :
    ∃ u, exec i s = .next u ∧ IssuedAlone s' u (evs ++ stream) inits := by
  obtain ⟨q, last, hmarks, hends, hinit, -, hexec⟩ := h
  refine ⟨_, hexec, rfl, rfl, rfl, rfl, rfl, ?events, last, by simp, hends, hinit⟩
  case events =>
    have hevs := congrArg (List.map (·.1)) hmarks
    simpa [Function.comp_def, streamMarks_fst, hempty] using hevs

/-! ### A window and its colours -/

/-- A panel out of reset whose record is known. -/
theorem Panel.eq_awake {p : Panel} {r : PanelRec} (hreset : p.inReset = false)
    (hknown : p.known = some r) : p = Panel.awake p.bl (some r) := by
  rw [Panel.awake, ← hreset, ← hknown]

theorem State.gramAt_of_known {s : State} {r : PanelRec} (h : s.panel.known = some r)
    (col row : Half) : s.gramAt col row = r.gram.read (cellIndex col row) := by
  simp only [State.gramAt, h]

/-- As many pixels as the window has cells colour them all, in row-major order (R173, R215). -/
theorem PanelRec.writing_pixels_gram {r : PanelRec} {cs ce rs re : Half} {colors : List Half}
    (hc : cs.toNat ≤ ce.toNat) (hr : rs.toNat ≤ re.toNat)
    (hlen : colors.length = (ce.toNat - cs.toNat + 1) * (re.toNat - rs.toNat + 1))
    (col row : Half) :
    (colors.foldl PanelRec.pixel (r.writing cs ce rs re)).gram.read (cellIndex col row) =
      if cs.toNat ≤ col.toNat ∧ col.toNat ≤ ce.toNat ∧ rs.toNat ≤ row.toNat ∧ row.toNat ≤ re.toNat
      then colors[(row.toNat - rs.toNat) * (ce.toNat - cs.toNat + 1) + (col.toNat - cs.toNat)]?
      else r.gram.read (cellIndex col row) := by
  have hstart : (r.writing cs ce rs re).AtPlace 0 := fun _ =>
    ⟨⟨Nat.le_refl _, hc, Nat.le_refl _, hr⟩, by simp [PanelRec.writing, PanelRec.place]⟩
  have harea : 0 + colors.length = (r.writing cs ce rs re).area := by
    rw [Nat.zero_add, hlen]
    rfl
  rw [PanelRec.pixels_gram hstart (Nat.le_of_eq harea), harea]
  split
  case isTrue h =>
    obtain ⟨hcov, -, -⟩ := h
    exact (if_pos hcov).symm
  case isFalse h =>
    refine (if_neg fun hcov => h ⟨hcov, Nat.zero_le _, ?_⟩).symm
    exact PanelRec.place_lt_area (r := r.writing cs ce rs re) hcov

section Window

variable {s : State} {r : PanelRec}

/-- A window that lies in the panel, and as many colours as it has cells: E's turns over them colour its
cells in row-major order, and no other (40_panellink.md R173). -/
theorem run_paints {cs ce rs re : Half} {colors : List Half} (hf : s.faulted = false)
    (hp : s.portP.hold = none) (hlink : s.portC.hold = none ∨ s.portC.hold = some .link)
    (hreset : s.panel.inReset = false) (hknown : s.panel.known = some r)
    (hctx : ∀ cmd got, r.ctx ≠ .params cmd got) (hmode : r.colmod = s.cfg.colmod16bpp)
    (hc : cs.toNat ≤ ce.toNat) (hr : rs.toNat ≤ re.toNat) (hw : ce.toNat < s.cfg.panelW)
    (hh : re.toNat < s.cfg.panelH)
    (hqueue : s.opQueue.map (·.ev) = windowWire cs ce rs re ++ streamWire colors)
    (hlen : colors.length = (ce.toNat - cs.toNat + 1) * (re.toNat - rs.toNat + 1)) :
    ∃ t, Host.Core.run Sys2Proof.core s.opQueue.length (s.engineTurns s.opQueue.length) = .next t ∧
      EngineRun s s.opQueue t ∧
      ∀ col row : Half, t.gramAt col row =
        if cs.toNat ≤ col.toNat ∧ col.toNat ≤ ce.toNat ∧ rs.toNat ≤ row.toNat ∧ row.toNat ≤ re.toNat
        then colors[(row.toNat - rs.toNat) * (ce.toNat - cs.toNat + 1) + (col.toNat - cs.toNat)]?
        else s.gramAt col row := by
  obtain ⟨t, hrun, ht⟩ := run_engineTurns hf hp hlink
  refine ⟨t, hrun, ht, fun col row => ?_⟩
  have hpanel : t.panel =
      Panel.awake s.panel.bl (some (colors.foldl PanelRec.pixel (r.writing cs ce rs re))) := by
    have hwindow := Panel.foldl_windowWire (bl := s.panel.bl) hctx hc hr hw hh
    rw [← Panel.eq_awake hreset hknown] at hwindow
    rw [ht.panel, hqueue, List.foldl_append, hwindow]
    exact Panel.foldl_streamWire (r := r.writing cs ce rs re) rfl hmode colors
  rw [State.gramAt_of_known (s := t) (by rw [hpanel]; rfl), State.gramAt_of_known hknown]
  exact PanelRec.writing_pixels_gram hc hr hlen col row

end Window

/-- Settles O42. The run over the queue paints its window, and its trace is the queue's events. -/
theorem windowStreamCoversTheWindow : Obligations.WindowStreamCoversTheWindow := by
  intro s r cs ce rs re colors hf hp hlink hreset hknown hctx hmode hc hr hw hh hqueue hlen
  obtain ⟨t, hrun, ht, hgram⟩ :=
    run_paints hf hp hlink hreset hknown hctx hmode hc hr hw hh hqueue hlen
  exact ⟨t, hrun, ht.queue, by rw [ht.trace, hqueue, List.append_assoc], hgram⟩

theorem toNat_ofNat_half {n : Nat} (h : n < 65536) : (BitVec.ofNat 16 n).toNat = n :=
  Nat.mod_eq_of_lt h

/-- Settles O43. The fill's window is the rectangle, and each of its colours is the one colour. -/
theorem fillPaintsTheRectangle : Obligations.FillPaintsTheRectangle := by
  intro s r v x y w h c howned hclosed hp hempty hlegal hreset hknown hctx hmode hxy hwh hcolor hw hh
    hright hbottom
  have ⟨⟨_, hf⟩, _⟩ := howned
  obtain ⟨hissue, -⟩ := fillOperation s v x y w h c howned hclosed hxy hwh hcolor
  obtain ⟨u, hexec, hu⟩ := (hissue hw hh hright hbottom).alone hempty
  obtain ⟨last, hlast, hends, -⟩ := hu.last
  obtain ⟨-, hpanelW, -, hpanelH, -⟩ := hlegal
  have hcfg : u.cfg = s.cfg := hu.cfg
  have hce : (BitVec.ofNat 16 (x.toNat + w.toNat - 1)).toNat = x.toNat + w.toNat - 1 :=
    toNat_ofNat_half (by omega)
  have hre : (BitVec.ofNat 16 (y.toNat + h.toNat - 1)).toNat = y.toNat + h.toNat - 1 :=
    toNat_ofNat_half (by omega)
  have hwidth : x.toNat + w.toNat - 1 - x.toNat + 1 = w.toNat := by omega
  have hheight : y.toNat + h.toNat - 1 - y.toNat + 1 = h.toNat := by omega
  obtain ⟨t, hrun, ht, hgram⟩ := run_paints (hu.faulted.trans hf) (hu.portP ▸ hp) (.inr hu.hold)
    (hu.panel ▸ hreset) (hu.panel ▸ hknown) hctx (hcfg ▸ hmode) (by omega) (by omega)
    (by rw [hcfg]; omega) (by rw [hcfg]; omega) hu.events
    (by rw [List.length_replicate, hce, hre, hwidth, hheight])
  refine ⟨u, t, hexec, hrun, ht.free (.inr ⟨last, hlast, hends⟩), ht.queue, fun col row => ?_⟩
  rw [hgram, hce, hre, hwidth, State.gramAt_of_known (hu.panel ▸ hknown),
    State.gramAt_of_known hknown]
  by_cases hin : x.toNat ≤ col.toNat ∧ col.toNat < x.toNat + w.toNat ∧
      y.toNat ≤ row.toNat ∧ row.toNat < y.toNat + h.toNat
  · have hplace : (row.toNat - y.toNat) * w.toNat + (col.toNat - x.toNat) <
        w.toNat * h.toNat := rowMajor_lt (by omega) (by omega)
    rw [if_pos (by omega), if_pos hin, List.getElem?_replicate, if_pos hplace]
  · rw [if_neg (by omega), if_neg hin]

/-! ### Initialization -/

/-- The panel after InitSequence: awake and on, with the full window and the colour mode and
orientation of the parameters (40_panellink.md R152, R176; 41_panel_receiver.md R204). -/
def PanelRec.initialized (cfg : Params) (gram : Memory Half) : PanelRec :=
  { resetDefaults cfg gram with
    sleep := false
    displayOn := true
    colmod := cfg.colmod16bpp
    madctl := cfg.madctlInit
    xe := BitVec.ofNat 16 (cfg.panelW - 1)
    ye := BitVec.ofNat 16 (cfg.panelH - 1) }

/-- The events of InitSequence (40_panellink.md R152). -/
def initWire (cfg : Params) : List WireEvent :=
  [WireEvent.rst false, .wait 100, .rst true, .wait 100] ++ frameWire 0x01 [] ++
    [WireEvent.wait 150] ++ frameWire 0x11 [] ++ [WireEvent.wait 120] ++
    frameWire 0x3A [cfg.colmod16bpp] ++ frameWire 0x36 [cfg.madctlInit] ++
    windowWire 0 (BitVec.ofNat 16 (cfg.panelW - 1)) 0 (BitVec.ofNat 16 (cfg.panelH - 1)) ++
    frameWire 0x13 [] ++ frameWire 0x29 [] ++ [WireEvent.wait 120]

theorem Panel.foldl_wait (cfg : Params) (p : Panel) (n : Nat) :
    [WireEvent.wait n].foldl (Panel.event cfg) p = p := rfl

/-- A pulse on RSTn leaves the reset defaults, also of an UNKNOWN panel (41_panel_receiver.md R203). -/
theorem Panel.foldl_resetPulse (cfg : Params) (p : Panel) (n m : Nat) :
    [WireEvent.rst false, .wait n, .rst true, .wait m].foldl (Panel.event cfg) p =
      Panel.awake p.bl (some (resetKnown cfg p.known)) := rfl

/-- From any panel, InitSequence leaves it initialized. -/
theorem Panel.foldl_initWire {cfg : Params} (hlegal : cfg.Legal) (p : Panel) :
    (initWire cfg).foldl (Panel.event cfg) p =
      Panel.awake p.bl (some (PanelRec.initialized cfg (resetKnown cfg p.known).gram)) := by
  obtain ⟨hw, hw', hh, hh', -⟩ := hlegal
  have hce : (BitVec.ofNat 16 (cfg.panelW - 1)).toNat = cfg.panelW - 1 := toNat_ofNat_half (by omega)
  have hre : (BitVec.ofNat 16 (cfg.panelH - 1)).toNat = cfg.panelH - 1 := toNat_ofNat_half (by omega)
  simp only [initWire, List.foldl_append, Panel.foldl_resetPulse, Panel.foldl_wait]
  rw [Panel.foldl_frame_eq (c := 0x01) (i := .swreset) (r' := resetKnown cfg p.known) rfl
      (.inl rfl) rfl,
    Panel.foldl_frame_eq (c := 0x11) (i := .slpout) rfl (.inl rfl) rfl,
    Panel.foldl_frame_eq (c := 0x3A) (i := .colmod) rfl (.inl rfl) rfl,
    Panel.foldl_frame_eq (c := 0x36) (i := .madctl) rfl (.inl rfl) rfl,
    Panel.foldl_windowWire (by simp) (by simp) (by simp) (by omega) (by omega),
    Panel.foldl_frame_eq (c := 0x13) (i := .noron) rfl (.inr ⟨_, rfl⟩) rfl,
    Panel.foldl_frame_eq (c := 0x29) (i := .dispon) rfl (.inl rfl) rfl]
  rfl

/-- Settles O44. The queue holds InitSequence alone, whose events initialize any panel; its last entry
sets INIT_DONE and frees the port. -/
theorem initializationSetsThePanel : Obligations.InitializationSetsThePanel := by
  intro s v howned hclosed hp hempty hlegal
  have ⟨⟨_, hf⟩, _⟩ := howned
  obtain ⟨u, hexec, hu⟩ := (initializeQueuesItsSequence s v howned hclosed).alone hempty
  obtain ⟨last, hlast, hends, hinit⟩ := hu.last
  have hevents : u.opQueue.map (·.ev) = initWire s.cfg := hu.events
  have hlength : u.opQueue.length = 44 := by
    rw [← List.length_map (f := (·.ev)), hevents]
    rfl
  obtain ⟨t, hrun, ht⟩ := run_engineTurns (hu.faulted.trans hf) (hu.portP ▸ hp) (.inr hu.hold)
  have hpanel : t.panel = Panel.awake s.panel.bl
      (some (PanelRec.initialized s.cfg (resetKnown s.cfg s.panel.known).gram)) := by
    have hcfg : u.cfg = s.cfg := hu.cfg
    have hsame : u.panel = s.panel := hu.panel
    rw [ht.panel, hevents, hcfg, hsame, Panel.foldl_initWire hlegal]
  rw [hlength] at hrun
  obtain ⟨hw, hw', hh, hh', -⟩ := hlegal
  exact ⟨u, t, _, hexec, hrun, ht.initDone (.inr ⟨last, hlast, hinit⟩),
    ht.free (.inr ⟨last, hlast, hends⟩), ht.queue, hpanel, rfl, rfl, rfl, rfl, rfl, rfl, rfl, rfl,
    toNat_ofNat_half (by omega), rfl, toNat_ofNat_half (by omega), rfl, rfl, rfl,
    fun r hknown => by rw [hknown]; rfl⟩

end Sys2Proof.Machine
end

section
namespace Sys2Proof.Machine

/-! ## The faults of the dispatcher -/

/-! ### The first element that does not map -/

/-- The fault of element `i`, if it is the first that does not map (40_panellink.md R170). -/
def State.FirstUnmapped (s : State) (i : Nat) (t : Trap) : Prop :=
  (∀ j, j < i → s.Maps j) ∧
    (s.linebuf.read i = none ∧ t = ⟨.uninitRead, elementOffset i⟩ ∨
      ∃ e, s.linebuf.read i = some e ∧
        (elementReserved e ≠ 0 ∧ t = ⟨.paletteIndex, elementOffset i⟩ ∨
          elementReserved e = 0 ∧ s.palette.read (paletteIndex e).toNat = none ∧
            t = ⟨.uninitRead, entryOffset (paletteIndex e).toNat⟩))

section Row

variable {s : State}

/-- An element has a colour only if it maps. -/
theorem maps_of_mapElement {i : Nat} {c : Half} (h : mapElement s i = .ok c) : s.Maps i := by
  unfold mapElement at h
  split at h
  · cases h
  split at h
  · cases h
  split at h
  · cases h
  · cases h
    exact ⟨_, c, ‹_›, not_not.1 ‹_›, ‹_›⟩

theorem mapElement_error {i : Nat} {t : Trap} (h : mapElement s i = .error t)
    (hbefore : ∀ j, j < i → s.Maps j) : s.FirstUnmapped i t := by
  refine ⟨hbefore, ?_⟩
  unfold mapElement at h
  split at h
  · cases h
    exact .inl ⟨‹_›, rfl⟩
  split at h
  · cases h
    exact .inr ⟨_, ‹_›, .inl ⟨‹_›, rfl⟩⟩
  split at h
  · cases h
    exact .inr ⟨_, ‹_›, .inr ⟨not_not.1 ‹_›, ‹_›, rfl⟩⟩
  · cases h

/-- A row that does not map stops at its first element that does not. -/
theorem mapRowFrom_error {i n : Nat} {t : Trap} (h : mapRowFrom s i n = .error t)
    (hbefore : ∀ j, j < i → s.Maps j) : ∃ k, k < i + n ∧ s.FirstUnmapped k t := by
  induction n generalizing i with
  | zero => cases h
  | succ n ih =>
    rw [mapRowFrom] at h
    split at h
    case h_1 hhead =>
      cases h
      exact ⟨i, by omega, mapElement_error hhead hbefore⟩
    case h_2 hhead =>
      split at h
      case h_2 => cases h
      case h_1 htail =>
        cases h
        obtain ⟨k, hk, hfirst⟩ := ih htail fun j hj => by
          rcases Nat.lt_succ_iff_lt_or_eq.1 hj with hj | rfl
          · exact hbefore j hj
          · exact maps_of_mapElement hhead
        exact ⟨k, by omega, hfirst⟩

/-- What C_DRAW_LINE faults with when the row is marked and no stream is open. -/
theorem linkDrawLine_trap {v : Word} {t : Trap} (hclosed : s.streamOpen = false)
    (hbusy : s.busy = true) (h : linkDrawLine v s = .trap t) :
    t = ⟨.rowRange, 0x0080⟩ ∨ ∃ i, i < s.cfg.lineW ∧ s.FirstUnmapped i t := by
  by_cases hrow : s.cfg.srcH ≤ (lowHalf v).toNat
  · rw [linkDrawLine_of_rowRange hclosed hbusy hrow] at h
    cases h
    exact .inl rfl
  · have hrow := Nat.not_le.1 hrow
    cases hmap : mapRow s with
    | ok colors =>
      rw [linkDrawLine_of_mapped hclosed hbusy hrow hmap] at h
      cases h
    | error t' =>
      rw [linkDrawLine_of_unmapped hclosed hbusy hrow hmap] at h
      cases h
      obtain ⟨i, hi, hfirst⟩ := mapRowFrom_error hmap (by simp)
      exact .inr ⟨i, by omega, hfirst⟩

end Row

/-! ### The operations of a command word -/

/-- The operations of a word are those of one of the three command words that have some (R291). -/
theorem commandOps_cases (cfg : Params) (w : Word) :
    commandOps cfg w = [] ∨
    (∃ row, w = drawLineWord row ∧ commandOps cfg w = drawLineOps row) ∨
    (∃ invert idle, w = setIdleWord invert idle ∧ commandOps cfg w = setIdleOps invert idle) ∨
    ∃ c, w = setPixelWord c ∧ commandOps cfg w = setPixelOps cfg c := by
  obtain ⟨henc, -⟩ := decodeCommand_spec w
  unfold commandOps
  split
  case h_1 row hdec =>
    rw [hdec] at henc
    cases henc
    exact .inr (.inl ⟨row, rfl, rfl⟩)
  case h_2 invert idle hdec =>
    rw [hdec] at henc
    cases henc
    exact .inr (.inr (.inl ⟨invert, idle, rfl, rfl⟩))
  case h_3 c hdec =>
    rw [hdec] at henc
    cases henc
    exact .inr (.inr (.inr ⟨c, rfl, rfl⟩))
  case h_4 => exact .inl rfl

theorem commandTag_drawLineWord (row : Half) : commandTag (drawLineWord row) = 0x01#8 := by
  apply BitVec.eq_of_toNat_eq
  have := row.isLt
  rw [commandTag, field_toNat, drawLineWord_toNat]
  simp
  omega

theorem commandTag_setPixelWord (c : Half) : commandTag (setPixelWord c) = 0x03#8 := by
  apply BitVec.eq_of_toNat_eq
  have := c.isLt
  rw [commandTag, field_toNat, setPixelWord_toNat]
  simp
  omega

theorem commandTag_setIdleWord (invert idle : Bool) : commandTag (setIdleWord invert idle) = 0x02#8 := by
  cases invert <;> cases idle <;> rfl

/-! ### What D finds when it issues an operation -/

section Issue

variable {s : State} {w : Word} {k : Nat}

/-- While D issues an operation the stream is open exactly at SET_PIXEL's pixel and end (R295). -/
theorem State.StreamPaired.open_iff (h : s.StreamPaired) (hf : s.faulted = false)
    (hen : s.dispatchEn = true) (hp : s.phase = .exec w k false) :
    s.streamOpen = true ↔ commandTag w = 0x03#8 ∧ (k = 2 ∨ k = 3) := by
  rw [h hf hen]
  constructor
  · rintro ⟨w', k', issued, hp', htag, hk⟩
    rw [hp] at hp'
    cases hp'
    exact ⟨htag, by simpa using hk⟩
  · rintro ⟨htag, hk⟩
    exact ⟨w, k, false, hp, htag, by simpa using hk⟩

theorem State.StreamPaired.closed (h : s.StreamPaired) (hf : s.faulted = false)
    (hen : s.dispatchEn = true) (hp : s.phase = .exec w k false)
    (hno : ¬ (commandTag w = 0x03#8 ∧ (k = 2 ∨ k = 3))) : s.streamOpen = false := by
  rw [← h.open_iff hf hen hp] at hno
  simpa using hno

/-- While D executes a DRAW_LINE its row is marked (43_busy_status.md R276). -/
theorem State.BusyExact.busy {issued : Bool} (h : s.BusyExact) (hf : s.faulted = false)
    (hen : s.dispatchEn = true) (hp : s.phase = .exec w k issued) (htag : commandTag w = 0x01#8) :
    s.busy = true := by
  have hrows := h hf hen
  by_contra hfree
  simp [State.rowsInFlight, hp, htag, hfree] at hrows

/-- The first cell of the display region lies in the panel (R7, 44_dispatcher.md R295). -/
theorem linkSetAddress_origin (hclosed : s.streamOpen = false) (hlegal : s.cfg.Legal) :
    ∃ s' q, linkSetAddress (pairWord (truncHalf s.cfg.y0) (truncHalf s.cfg.x0)) s = .start s' q := by
  obtain ⟨hw, hw', hh, hh', hl, hlw, -, hr, hrh, -⟩ := hlegal
  have hx : (truncHalf s.cfg.x0).toNat = s.cfg.x0 := toNat_ofNat_half (by unfold Params.x0; omega)
  have hy : (truncHalf s.cfg.y0).toNat = s.cfg.y0 := toNat_ofNat_half (by unfold Params.y0; omega)
  exact ⟨_, _, linkSetAddress_of_inside hclosed (by rw [hx]; unfold Params.x0; omega)
    (by rw [hy]; unfold Params.y0; omega)⟩

theorem linkIdle_of_closed (v : Word) (hclosed : s.streamOpen = false) :
    linkIdle v s = .start s (frame (if boolOperand v then 0x39 else 0x38) []) :=
  streamGuard_of_closed hclosed

theorem linkInvert_of_closed (v : Word) (hclosed : s.streamOpen = false) :
    linkInvert v s = .start s (frame (if boolOperand v then 0x21 else 0x20) []) :=
  streamGuard_of_closed hclosed

theorem linkStreamBegin_of_closed (hclosed : s.streamOpen = false) :
    linkStreamBegin s = .start { s with streamOpen := true } [streamOpenItem] :=
  streamGuard_of_closed hclosed

/-- Of all the checks that D's operations meet, only C_DRAW_LINE's row and elements can fail. -/
theorem dispatcherOp_trap {off : Half} {v : Word} {t : Trap} (hf : s.faulted = false)
    (hen : s.dispatchEn = true) (hp : s.phase = .exec w k false) (hbusy : s.BusyExact)
    (hstream : s.StreamPaired) (hlegal : s.cfg.Legal)
    (hop : (commandOps s.cfg w)[k]? = some (off, v)) (h : dispatcherOp off v s = .trap t) :
    t = ⟨.rowRange, 0x0080⟩ ∨ ∃ i, i < s.cfg.lineW ∧ s.FirstUnmapped i t := by
  have hclosed := hstream.closed hf hen hp
  rcases commandOps_cases s.cfg w with e | ⟨row, rfl, e⟩ | ⟨invert, idle, rfl, e⟩ | ⟨c, rfl, e⟩ <;>
    rw [e] at hop
  · simp at hop
  · rw [commandTag_drawLineWord] at hclosed
    match k with
    | 0 =>
      cases hop
      exact linkDrawLine_trap (hclosed (by simp))
        (hbusy.busy hf hen hp (commandTag_drawLineWord row)) h
    | 1 => cases hop; cases h
    | k + 2 => simp [drawLineOps] at hop
  · rw [commandTag_setIdleWord] at hclosed
    match k with
    | 0 =>
      cases hop
      exact nomatch (linkIdle_of_closed _ (hclosed (by simp))).symm.trans h
    | 1 =>
      cases hop
      exact nomatch (linkInvert_of_closed _ (hclosed (by simp))).symm.trans h
    | k + 2 => simp [setIdleOps] at hop
  · have hopen := hstream.open_iff hf hen hp
    rw [commandTag_setPixelWord] at hclosed hopen
    match k with
    | 0 =>
      cases hop
      obtain ⟨s', q, hstart⟩ := linkSetAddress_origin (hclosed (by simp)) hlegal
      exact nomatch hstart.symm.trans h
    | 1 =>
      cases hop
      exact nomatch (linkStreamBegin_of_closed (hclosed (by simp))).symm.trans h
    | 2 =>
      cases hop
      exact nomatch (linkPixel_of_open _ (hopen.2 (by simp))).symm.trans h
    | 3 =>
      cases hop
      exact nomatch (linkStreamEnd_of_open (hopen.2 (by simp))).symm.trans h
    | k + 4 => simp [setPixelOps] at hop

/-- D in EXEC(w, k) issues the operation unless it is outstanding (R290). -/
theorem stepDispatcher_exec {issued : Bool} (hf : s.faulted = false)
    (hp : s.phase = .exec w k issued) :
    stepDispatcher s = .next (s.dispatcherExec w k issued) := by
  simp [stepDispatcher, hf, hp]

theorem dispatcherExec_issues {off : Half} {v : Word}
    (hop : (commandOps s.cfg w)[k]? = some (off, v)) :
    s.dispatcherExec w k false = s.dispatcherIssue w k off v := by
  simp [State.dispatcherExec, hop]

theorem dispatcherIssue_of_trap {off : Half} {v : Word} {t : Trap}
    (h : dispatcherOp off v s = .trap t) :
    s.dispatcherIssue w k off v = s.raiseFault t true true := by
  simp [State.dispatcherIssue, h]

/-- An issued operation faults only by a check of its rule. -/
theorem dispatcherIssue_faulted {off : Half} {v : Word} (hf : s.faulted = false)
    (h : (s.dispatcherIssue w k off v).faulted = true) :
    ∃ t, dispatcherOp off v s = .trap t ∧ s.dispatcherIssue w k off v = s.raiseFault t true true := by
  have hfit := dispatcherOp_fits (s := s) off v
  have hrule {s'} (hr : RuleStep s s') : s'.faulted = false := by
    rw [State.faulted, hr.fault]
    exact hf
  unfold State.dispatcherIssue at h ⊢
  cases hop : dispatcherOp off v s with
  | done s' _ =>
    rw [hop] at hfit h
    simp [hrule hfit] at h
  | hold =>
    rw [hop] at hfit
    exact hfit.elim
  | start s' q =>
    rw [hop] at hfit h
    obtain ⟨hr, -, -⟩ := hfit
    cases q with
    | nil => simp [hrule hr] at h
    | cons q r => exact absurd ((hrule hr).symm.trans h) (by simp)
  | trap t => exact ⟨t, rfl, rfl⟩

/-- A command word faults only at its pop, and only if it is reserved (R296). -/
theorem exec_command_faulted {t : State} (hf : s.faulted = false)
    (he : exec (decodeCommand w) s = .next t) (h : t.faulted = true) :
    t = ({ s with p2c := none } : State).raiseFault ⟨.badCommand, 0x0008⟩ true true := by
  have htake : ∀ w ops, (s.takeCommand w ops).faulted = false := fun w ops => by
    simpa [State.faulted] using hf
  unfold decodeCommand at he
  iterate 4
    split at he
    · cases he
      simp [htake] at h
  cases he
  split at h
  · rw [if_pos ‹_›]
  · simp [hf] at h

/-- Every fault at D's turn in a sound state: BAD_COMMAND, or one of C_DRAW_LINE's. -/
theorem stepDispatcher_faults {t : State} (hphase : s.PhaseSound) (hbusy : s.BusyExact)
    (hstream : s.StreamPaired) (hlegal : s.cfg.Legal) (hf : s.faulted = false)
    (hs : stepDispatcher s = .next t) (ht : t.faulted = true) :
    ∃ trap : Trap, t.fault =
        { code := trap.code.byte, port := true, disp := true, offset := trap.off } ∧
      (trap = ⟨.badCommand, 0x0008⟩ ∨ trap = ⟨.rowRange, 0x0080⟩ ∨
        ∃ i, i < s.cfg.lineW ∧ s.FirstUnmapped i trap) := by
  have hlatch {u : State} (hu : u.faulted = false) (trap : Trap) :
      (u.raiseFault trap true true).fault =
        { code := trap.code.byte, port := true, disp := true, offset := trap.off } := by
    simp [State.raiseFault_fault, hu]
  rcases stepDispatcher_cases s with e | ⟨-, -, w, -, e⟩ | ⟨-, w, k, issued, hp, e⟩ <;> rw [e] at hs
  · cases hs
    simp [hf] at ht
  · obtain rfl := exec_command_faulted hf hs ht
    exact ⟨_, hlatch hf _, .inl rfl⟩
  · cases hs
    cases issued with
    | true => simp [State.dispatcherExec, hf] at ht
    | false =>
      have ⟨_, hops⟩ := hphase
      obtain ⟨⟨off, v⟩, hop, -⟩ := hops w k false hp
      rw [dispatcherExec_issues hop] at ht ⊢
      obtain ⟨trap, htrap, e⟩ := dispatcherIssue_faulted hf ht
      rw [e]
      exact ⟨trap, hlatch hf trap, .inr (dispatcherOp_trap hf (hphase.enabled (by simp [hp])) hp
        hbusy hstream hlegal hop htrap)⟩

end Issue

/-! ### The faults of a DRAW_LINE -/

section DrawLine

variable {s : State} {ts : List Turn} {row : Half}

/-- D's first operation of a DRAW_LINE, when its rule fails a check. -/
theorem raisesD_of_drawLine {t : Trap} (hready : s.readyHeld = none) (hturns : s.turns = .d :: ts)
    (hf : s.faulted = false) (hp : s.phase = .exec (drawLineWord row) 0 false)
    (htrap : linkDrawLine (zextHalf row) { s with turns := ts } = .trap t) :
    RaisesD s ts t.code.byte t.off := by
  have hops : (commandOps s.cfg (drawLineWord row))[0]? = some (0x0080, zextHalf row) := by
    rw [commandOps_drawLine]
    rfl
  have hop : dispatcherOp 0x0080 (zextHalf row) { s with turns := ts } = .trap t := htrap
  have hf' : ({ s with turns := ts } : State).faulted = false := hf
  unfold RaisesD
  rw [step_of_turn hready hturns, stepTurn, stepDispatcher_exec hf' hp,
    dispatcherExec_issues (s := { s with turns := ts }) hops, dispatcherIssue_of_trap hop]
  simp [State.raiseFault, hf']

theorem lowHalf_zextHalf (v : Half) : lowHalf (zextHalf v) = v := by
  apply BitVec.eq_of_toNat_eq
  have := v.isLt
  rw [lowHalf, zextHalf, field_toNat, BitVec.toNat_setWidth]
  omega

end DrawLine

/-- Settles O59. In a sound state only a reserved word and C_DRAW_LINE's row or elements fail a check of
D's; and these do fail it. -/
theorem dispatcherFaults : Obligations.DispatcherFaults := by
  constructor
  · intro s t ts hinv hbusy hstream hlegal hready hturns hf hs ht
    rw [step_of_turn hready hturns] at hs
    obtain ⟨trap, hfault, htrap⟩ := stepDispatcher_faults (s := { s with turns := ts }) hinv.phase
      hbusy hstream hlegal hf hs ht
    rw [hfault]
    refine ⟨rfl, rfl, ?_⟩
    rcases htrap with rfl | rfl | ⟨i, hi, hbefore, hcase⟩
    · exact .inl ⟨rfl, rfl⟩
    · exact .inr (.inl ⟨rfl, rfl⟩)
    · refine .inr (.inr ⟨i, hi, hbefore, ?_⟩)
      rcases hcase with ⟨hread, rfl⟩ | ⟨e, hread, ⟨hres, rfl⟩ | ⟨hres, hentry, rfl⟩⟩
      · exact .inl ⟨rfl, hread, rfl⟩
      · exact .inr ⟨e, hread, .inl ⟨rfl, hres, rfl⟩⟩
      · exact .inr ⟨e, hread, .inr ⟨rfl, hres, hentry, rfl⟩⟩
  · intro s ts row hready hturns hf hp hclosed hbusy
    have hword : BitVec.ofNat 32 (0x01000000 + row.toNat) = drawLineWord row := by
      rw [← drawLineWord_toNat, BitVec.ofNat_toNat, BitVec.setWidth_eq]
    rw [hword] at hp
    have raised {t} := raisesD_of_drawLine (t := t) hready hturns hf hp
    constructor
    · intro hrow
      refine raised (linkDrawLine_of_rowRange hclosed hbusy ?_)
      rwa [lowHalf_zextHalf]
    · intro hrow i hi hmap
      have unmapped {t} (h : mapElement s i = .error t) : RaisesD s ts t.code.byte t.off :=
        raised (linkDrawLine_of_unmapped (s := { s with turns := ts }) hclosed hbusy
          (by rwa [lowHalf_zextHalf]) (mapRow_eq_error (s := { s with turns := ts }) hi hmap h))
      exact ⟨fun hread => unmapped (mapElement_of_unwritten hread),
        fun e hread hres => unmapped (mapElement_of_reserved hread hres),
        fun e hread hres hentry => unmapped (mapElement_of_noEntry hread hres hentry)⟩

end Sys2Proof.Machine
end

section
namespace Sys2Proof.Machine

/-! ## The reference receiver, command by command

SUPPORT. What a command byte and a data byte make of a panel, in the cases of 41_panel_receiver.md R202
to R207 (UNKNOWN, held in reset, short of parameter bytes), and the statements about single bytes. -/

/-! ### Command bytes -/

/-- The byte of a wire command decodes to it (R200). -/
theorem decodeWire_of_encode {i : Instr} {b : Byte} (h : encode i = .wire b) :
    decodeWire b = .ok i := by
  cases i <;> cases h <;> rfl

/-- Of the wire commands only SWRESET makes an UNKNOWN panel known (R202). -/
theorem wireRecord_none {cfg : Params} {i : Instr} (h : i ≠ .swreset) :
    wireRecord cfg i none = none := by
  cases i
  case swreset => exact absurd rfl h
  all_goals rfl

theorem ne_swreset_of_encode {i : Instr} {b : Byte} (h : encode i = .wire b) (hb : b ≠ 0x01) :
    i ≠ .swreset := by
  rintro rfl
  cases h
  exact hb rfl

section Command

variable {p : Panel} {r : PanelRec} {f : Option PanelRec → Option PanelRec}

/-- R203: held in reset, the panel ignores commands. -/
theorem Panel.command_of_reset (h : p.inReset = true) : p.command f = p := if_pos h

/-- R207: out of reset, a command acts on the record whose context its byte has ended. -/
theorem Panel.command_of_awake (h : p.inReset = false) :
    p.command f = { p with known := f p.atCommand } := if_neg (by simp [h])

theorem Panel.atCommand_of_unknown (h : p.known = none) : p.atCommand = none := by
  rw [Panel.atCommand, h]

theorem Panel.atCommand_of_known (h : p.known = some r) : p.atCommand = r.endContext := by
  rw [Panel.atCommand, h]

/-- R207 step 1: a context that is short of no parameter byte is ended. -/
theorem PanelRec.endContext_of_enough
    (h : ∀ cmd got, r.ctx = .params cmd got → cmd.count ≤ got.length) :
    r.endContext = some { r with ctx := .none } := by
  unfold PanelRec.endContext
  split
  case h_1 hctx => rw [← hctx]
  case h_2 => rfl
  case h_3 cmd got hctx => exact if_neg (Nat.not_lt.2 (h cmd got hctx))

/-- R207 step 1: a context that is short of parameter bytes makes the panel UNKNOWN. -/
theorem PanelRec.endContext_of_short {cmd : ParamCmd} {got : List Byte}
    (hctx : r.ctx = .params cmd got) (h : got.length < cmd.count) : r.endContext = none := by
  simp [PanelRec.endContext, hctx, h]

/-- What a known panel out of reset makes of a command, by what is left of its context. -/
theorem Panel.command_of_enough (hreset : p.inReset = false) (hknown : p.known = some r)
    (h : ∀ cmd got, r.ctx = .params cmd got → cmd.count ≤ got.length) :
    p.command f = { p with known := f (some { r with ctx := .none }) } := by
  rw [Panel.command_of_awake hreset, Panel.atCommand_of_known hknown, PanelRec.endContext_of_enough h]

theorem Panel.command_of_short {cmd : ParamCmd} {got : List Byte} (hreset : p.inReset = false)
    (hknown : p.known = some r) (hctx : r.ctx = .params cmd got) (h : got.length < cmd.count) :
    p.command f = { p with known := f none } := by
  rw [Panel.command_of_awake hreset, Panel.atCommand_of_known hknown,
    PanelRec.endContext_of_short hctx h]

/-- UNKNOWN stays UNKNOWN under a command that needs a record (R202). -/
theorem Panel.command_of_unknown (hknown : p.known = none) (hf : f none = none) :
    p.command f = p := by
  cases hreset : p.inReset with
  | true => exact Panel.command_of_reset hreset
  | false => rw [Panel.command_of_awake hreset, Panel.atCommand_of_unknown hknown, hf, ← hknown]

end Command

/-- Settles O38. Each command's byte decodes to it; its record follows from the record whose context has
ended, which a short context leaves UNKNOWN. -/
theorem wireCommandsOnAKnownPanel : Obligations.WireCommandsOnAKnownPanel := by
  intro s r hreset hknown goes
  constructor
  · intro hcomplete
    have runs (b : Byte) {i : Instr} (hdec : decodeWire b = .ok i) :
        exec i s = .next { s with panel :=
          { s.panel with known := wireRecord s.cfg i (some { r with ctx := .none }) } } := by
      rw [exec_wireCommand hdec, Panel.command_of_enough hreset hknown hcomplete]
    exact ⟨runs 0x10 rfl, runs 0x11 rfl, runs 0x13 rfl, runs 0x20 rfl, runs 0x21 rfl, runs 0x28 rfl,
      runs 0x29 rfl, runs 0x38 rfl, runs 0x39 rfl, runs 0x2A rfl, runs 0x2B rfl, runs 0x36 rfl,
      runs 0x3A rfl, runs 0x2C rfl⟩
  · intro cmd got hctx hshort b i henc hb
    rw [exec_wireCommand (decodeWire_of_encode henc), Panel.command_of_short hreset hknown hctx hshort,
      wireRecord_none (ne_swreset_of_encode henc hb)]

/-! ### Reset -/

theorem exec_swreset (s : State) :
    exec .swreset s = .next { s with panel := s.panel.command fun k => some (resetKnown s.cfg k) } :=
  exec_wireCommand (b := 0x01) rfl s

/-- A low level and its release leave the reset defaults, from every context (R203). -/
theorem Panel.rst_release (cfg : Params) (p : Panel) :
    (p.rst cfg false).rst cfg true =
      { p with inReset := false, known := some (resetKnown cfg p.known) } := rfl

/-- Settles O39. The defaults of R204 over the frame memory, which is that of the record when there is
one, and unspecified when the panel is UNKNOWN or the command byte makes it so. -/
theorem panelResets : Obligations.PanelResets := by
  intro s hlegal
  obtain ⟨-, -, -, -, -, -, -, -, -, hw, hw', hh, hh'⟩ := hlegal
  refine ⟨resetDefaults s.cfg, fun g => ?defaults, fun hknown => ⟨fun hreset => ?unknown, ?pulse⟩,
    fun r hknown => ⟨fun hreset => ⟨fun hcomplete => ?complete, fun cmd got hctx hshort => ?short⟩,
      ?pulseKnown⟩⟩
  case defaults =>
    exact ⟨rfl, rfl, rfl, rfl, rfl, rfl, rfl, rfl, rfl, toNat_ofNat_half (by omega),
      toNat_ofNat_half (by omega), rfl, rfl, rfl, rfl⟩
  case unknown =>
    rw [exec_swreset, Panel.command_of_awake hreset, Panel.atCommand_of_unknown hknown]
    rfl
  case pulse => rw [Panel.rst_release, hknown]; rfl
  case complete => rw [exec_swreset, Panel.command_of_enough hreset hknown hcomplete]; rfl
  case short => rw [exec_swreset, Panel.command_of_short hreset hknown hctx hshort]; rfl
  case pulseKnown => rw [Panel.rst_release, hknown]; rfl

/-! ### Data bytes -/

section Data

variable {cfg : Params} {p : Panel}

theorem Panel.data_of_reset (h : p.inReset = true) (b : Byte) : p.data cfg b = p := if_pos h

theorem Panel.data_of_awake (h : p.inReset = false) (b : Byte) :
    p.data cfg b = { p with known := p.known.bind (·.data cfg b) } := by
  rw [Panel.data, if_neg (by simp [h])]
  cases p.known <;> rfl

theorem Panel.data_of_unknown (h : p.known = none) (b : Byte) : p.data cfg b = p := by
  cases hreset : p.inReset with
  | true => exact Panel.data_of_reset hreset b
  | false => rw [Panel.data_of_awake hreset, h, Option.bind_none, ← h]

/-- Data bytes that arrive one after the other at a panel out of reset go to its record. -/
theorem Panel.foldl_data (h : p.inReset = false) (ds : List Byte) :
    ds.foldl (Panel.data cfg) p = { p with known := recordBytes cfg ds p.known } := by
  induction ds generalizing p with
  | nil => rfl
  | cons d ds ih =>
    rw [List.foldl_cons, Panel.data_of_awake h]
    exact ih h

end Data

/-- Settles O40. The reset input comes before the record, and a record that is not known stays so. -/
theorem panelIgnoresCommands : Obligations.PanelIgnoresCommands := by
  refine ⟨fun s b i henc => ?_, fun cfg p b => ⟨fun h => Panel.data_of_reset h b,
    fun h => Panel.data_of_unknown h b⟩⟩
  rw [exec_wireCommand (decodeWire_of_encode henc)]
  constructor
  · intro hreset
    rw [Panel.command_of_reset hreset]
  · intro hknown hb
    rw [Panel.command_of_unknown hknown (wireRecord_none (ne_swreset_of_encode henc hb))]

section Bytes

variable {cfg : Params} {r : PanelRec}

/-- The fourth parameter byte of CASET completes a column range (R219). -/
theorem recordBytes_columns (hctx : r.ctx = .params .caset []) (b1 b2 b3 b4 : Byte) :
    recordBytes cfg [b1, b2, b3, b4] (some r) =
      r.setColumns cfg (joinBytes b1 b2) (joinBytes b3 b4) := by
  simp [recordBytes, PanelRec.data, hctx, PanelRec.param, PanelRec.setColumns]

/-- The fourth parameter byte of RASET completes a row range (R219). -/
theorem recordBytes_rows (hctx : r.ctx = .params .raset []) (b1 b2 b3 b4 : Byte) :
    recordBytes cfg [b1, b2, b3, b4] (some r) =
      r.setRows cfg (joinBytes b1 b2) (joinBytes b3 b4) := by
  simp [recordBytes, PanelRec.data, hctx, PanelRec.param, PanelRec.setRows]

/-- The second data byte of a memory write completes a pixel (R215, R221). -/
theorem recordBytes_highLow (hctx : r.ctx = .memWrite none) (hmode : r.colmod = cfg.colmod16bpp)
    (hi lo : Byte) : recordBytes cfg [hi, lo] (some r) = some (r.pixel (hi ++ lo)) := by
  simp [recordBytes, PanelRec.data, hctx, PanelRec.pixelByte, hmode, joinBytes, PanelRec.pixel]

/-- Where the cursor stands after a pixel (R215). -/
theorem PanelRec.pixel_cx (r : PanelRec) (c : Half) :
    (r.pixel c).cx = if r.cx.toNat < r.xe.toNat then r.cx + 1 else r.xs := by
  unfold PanelRec.pixel PanelRec.advance
  split <;> rfl

theorem PanelRec.pixel_cy (r : PanelRec) (c : Half) :
    (r.pixel c).cy = if r.cx.toNat < r.xe.toNat then r.cy
      else if r.cy.toNat < r.ye.toNat then r.cy + 1 else r.ys := by
  unfold PanelRec.pixel PanelRec.advance
  split <;> rfl

/-- In a memory write, a pixel leaves the context and everything but the frame memory and the cursor. -/
theorem PanelRec.pixel_frame (hctx : r.ctx = .memWrite none) (c : Half) :
    r.pixel c = { r with gram := (r.pixel c).gram, cx := (r.pixel c).cx, cy := (r.pixel c).cy } := by
  rw [PanelRec.pixel_eq, hctx]

end Bytes

/-- Settles O41. Bytes that arrive at a panel out of reset go to its record, context by context. -/
theorem panelDataBytes : Obligations.PanelDataBytes := by
  intro cfg p r b1 b2 b3 b4 hreset hknown
  have bytes (ds : List Byte) :
      ds.foldl (Panel.data cfg) p = { p with known := recordBytes cfg ds (some r) } :=
    hknown ▸ Panel.foldl_data hreset ds
  have byte {k : Option PanelRec} (h : r.data cfg b1 = k) : p.data cfg b1 = { p with known := k } :=
    h ▸ bytes [b1]
  refine ⟨fun hctx => ?none, fun hctx => ?caset, fun hctx => ?raset, fun hctx => ?madctl,
    fun hctx => ?colmod, fun pending hctx hmode => ?mode, fun hctx hmode => ?pixel⟩
  case none =>
    rw [byte (k := some r) (by simp [PanelRec.data, hctx]), ← hknown]
  case caset => exact (bytes [b1, b2, b3, b4]).trans (by rw [recordBytes_columns hctx]; rfl)
  case raset => exact (bytes [b1, b2, b3, b4]).trans (by rw [recordBytes_rows hctx]; rfl)
  case madctl => exact byte (by simp [PanelRec.data, hctx, PanelRec.param])
  case colmod => exact byte (by simp [PanelRec.data, hctx, PanelRec.param])
  case mode => exact byte (by simp [PanelRec.data, hctx, PanelRec.pixelByte, hmode])
  case pixel =>
    refine ⟨r.pixel (b1 ++ b2), (bytes [b1, b2]).trans (by rw [recordBytes_highLow hctx hmode]),
      PanelRec.pixel_frame hctx _, fun col row => ?_, PanelRec.pixel_cx .., PanelRec.pixel_cy ..⟩
    rw [PanelRec.pixel_gram]
    simp only [eq_comm]

end Sys2Proof.Machine
end

section
namespace Sys2Proof.Machine

/-! ## The panel's window, cursor and parameter bytes -/

/-! ### What a step does to the panel -/

/-- An access does not reach the panel, whatever comes of it. -/
theorem State.access_panel {s : State} {waits links : Prop} {pid : PortId} {isRead : Bool} {i : Instr}
    {body : State → Effect} (hb : (body s).Fits s waits links) :
    (s.access pid isRead i body).panel = s.panel := by
  rcases State.access_cases s pid isRead i body with
    ⟨-, e⟩ | ⟨-, -, e⟩ | ⟨-, -, ⟨s', v, hs, e⟩ | ⟨-, e⟩ | ⟨s', hs, e⟩ | ⟨s', q, r, hs, e⟩ |
      ⟨t, -, e⟩⟩ <;> rw [e]
  · exact s.complete_panel ..
  · rw [hs] at hb
    exact (s'.complete_panel ..).trans hb.panel
  · exact s.holdPort_panel ..
  · rw [hs] at hb
    exact (s'.complete_panel ..).trans hb.1.panel
  · rw [hs] at hb
    simpa using hb.1.panel
  · simp

theorem State.statusRead_panel (s : State) (pid : PortId) (v : Word) :
    (s.statusRead pid v).panel = s.panel := by
  unfold State.statusRead
  split
  · rfl
  · exact s.complete_panel pid _

theorem State.refuseAccess_panel (s : State) (pid : PortId) (a : Access) (e : DecodeError) :
    (s.refuseAccess pid a e).panel = s.panel := by
  unfold State.refuseAccess
  split <;> simp

theorem State.dispatcherExec_panel (s : State) (w : Word) (k : Nat) (issued : Bool) :
    (s.dispatcherExec w k issued).panel = s.panel := by
  unfold State.dispatcherExec
  split
  · rfl
  split
  case h_2 => rfl
  case h_1 off v _ =>
  have hfit := dispatcherOp_fits (s := s) off v
  unfold State.dispatcherIssue
  cases hop : dispatcherOp off v s with
  | done s' _ => rw [hop] at hfit; simpa using hfit.panel
  | hold => rfl
  | start s' q =>
    rw [hop] at hfit
    obtain ⟨hr, -, -⟩ := hfit
    cases q <;> simpa using hr.panel
  | trap t => simp

/-- Of the operations only the wire commands reach the panel. -/
theorem exec_panel {i : Instr} {s t : State} (he : exec i s = .next t) :
    t.panel = s.panel ∨ ∃ b, encode i = .wire b := by
  have acc {pid : PortId} {isRead : Bool} {body : State → Effect} (hb : (body s).Fits s True True) :
      (s.access pid isRead i body).panel = s.panel := State.access_panel hb
  have owned {off : Half} {body : State → Effect} (hb : (body s).Fits s True True) :
      (s.linkWrite off i body).panel = s.panel := State.access_panel (ownerGuard_fits hb)
  cases i
  case swreset | slpin | slpout | noron | invoff | invon | dispoff | dispon | caset | raset | ramwr |
      madctl | idmoff | idmon | colmod =>
    exact .inr ⟨_, rfl⟩
  all_goals left; cases he
  case rPStatus | rPFault | rCStatus | rCFault => exact State.statusRead_panel ..
  case nop | drawLine | setIdle | setPixel => exact State.takeCommand_panel ..
  case reservedCommand => split <;> simp
  case wPStatus | wPMboxRx | wPFault | wCStatus | wCMboxRx | wCFault | rPMboxTx | rCMboxTx | rPBusy |
      rCBusyClr | rCCtrl | rCBacklight =>
    exact acc RuleStep.keep
  case wPBusy v =>
    refine acc (?_ : RuleStep s _)
    split
    · exact .busy true
    · exact .keep
  case wCBusyClr v => exact owned (busyClear_fits v)
  case wCCtrl v => exact acc (ctrlWrite_fits v)
  case wPMboxTx v => exact acc (pushP2C_fits v trivial)
  case rPMboxRx => exact acc (popC2P_fits trivial)
  case rCMboxRx => exact acc (ownerGuard_fits (popP2C_fits trivial))
  case wCMboxTx v => exact acc (pushC2P_fits v trivial)
  case rPPalette k | rCPalette k => exact acc (paletteRead_fits k)
  case wPPalette k v | wCPalette k v => exact acc (paletteWrite_fits k v)
  case rPLinebuf i => exact acc (linebufReadP_fits i)
  case wPLinebuf i v => exact acc (linebufWriteP_fits i v)
  case rCLinebuf i => exact acc (linebufReadC_fits i)
  case wCLinebuf i v => exact acc (linebufWriteC_fits i)
  case wCWinCol v => exact owned (RuleStep.winCol v)
  case wCWinRow v => exact owned (RuleStep.winRow v)
  case wCFillColor v => exact owned (RuleStep.fillColor (lowHalf v))
  case wCFillXY v => exact owned (RuleStep.fillXY v)
  case wCFillWH v => exact owned (RuleStep.fillWH v)
  case wCInit v => exact owned (linkInit_fits trivial)
  case wCWinApply v => exact owned (linkWinApply_fits trivial)
  case wCSetAddress v => exact owned (linkSetAddress_fits v trivial)
  case wCStreamBegin v => exact owned (linkStreamBegin_fits trivial)
  case wCPixel v => exact owned (linkPixel_fits v trivial)
  case wCStreamEnd v => exact owned (linkStreamEnd_fits trivial)
  case wCFillGo v => exact owned (linkFillGo_fits trivial)
  case wCInvert v => exact owned (linkInvert_fits v trivial)
  case wCPower v => exact owned (linkPower_fits v trivial)
  case wCBacklight v => exact acc (linkBacklight_fits v trivial)
  case wCIdle v => exact owned (linkIdle_fits v trivial)
  case wCDrawLine v => exact owned (linkDrawLine_fits v trivial)
  all_goals exact acc (ownerGuard_fits RuleStep.keep)

theorem Prepares.panel {s x : State} (h : Prepares s x) : x.panel = s.panel := by
  cases h with
  | stay | turn => rfl
  | release => exact State.release_panel ..
  | issue ts pid => exact State.setPort_panel ..
  | perform => exact State.perform_panel ..

/-- What runs shows the panel at most one event. -/
theorem Runs.panel {s t : State} (h : Runs s t) :
    t.panel = s.panel ∨ ∃ ev, t.panel = s.panel.event s.cfg ev := by
  cases h with
  | nothing => exact .inl rfl
  | refuse pid a e _ => exact .inl (s.refuseAccess_panel pid a e)
  | dispatcher w k issued _ _ => exact .inl (s.dispatcherExec_panel w k issued)
  | unknownByte => exact .inr ⟨.cmd 0x00, rfl⟩
  | line ev =>
    by_cases hcmd : ∃ b, ev = .cmd b
    · obtain ⟨b, rfl⟩ := hcmd
      exact .inl rfl
    · exact .inr ⟨ev, (Panel.event_of_ne_cmd _ (not_exists.1 hcmd)).symm⟩
  | operation i he =>
    rcases exec_panel he with hpanel | ⟨b, henc⟩
    · exact .inl hpanel
    · have hdec := decodeWire_of_encode henc
      rw [exec_wireCommand hdec] at he
      cases he
      exact .inr ⟨.cmd b, (Panel.event_cmd _ hdec).symm⟩

/-- A step shows the panel at most one event (41_panel_receiver.md R203 to R207). -/
theorem step_panel {s t : State} (hs : step s = .next t) :
    t.panel = s.panel ∨ ∃ cfg ev, t.panel = s.panel.event cfg ev := by
  rcases step_runs hs with rfl | ⟨x, hprep, hrun⟩
  · exact .inl rfl
  · rw [← hprep.panel]
    exact hrun.panel.imp_right fun ⟨ev, e⟩ => ⟨x.cfg, ev, e⟩

/-! ### Sound records -/

namespace PanelRec

variable {cfg : Params} {r r' : PanelRec}

/-- With no command in progress only the window counts. -/
theorem sound_of_idle (hctx : r.ctx = .none) (hcols : r.xs.toNat ≤ r.xe.toNat)
    (hrows : r.ys.toNat ≤ r.ye.toNat) : r.Sound :=
  ⟨hcols, hrows, by simp [hctx], by simp [hctx]⟩

/-- A command that has just begun is short of all its parameter bytes (R219 to R221). -/
theorem Sound.beginParams (h : r.Sound) (cmd : ParamCmd) :
    ({ r with ctx := .params cmd [] } : PanelRec).Sound := by
  obtain ⟨hcols, hrows, -, -⟩ := h
  refine ⟨hcols, hrows, by simp, fun cmd' got e => ?_⟩
  cases e
  cases cmd <;> decide

/-- RAMWR starts at a cell of the window (R214). -/
theorem Sound.beginWrite (h : r.Sound) :
    ({ r with ctx := .memWrite none, cx := r.xs, cy := r.ys } : PanelRec).Sound := by
  obtain ⟨hcols, hrows, -, -⟩ := h
  exact ⟨hcols, hrows, fun _ _ => ⟨Nat.le_refl _, hcols, Nat.le_refl _, hrows⟩, by simp⟩

/-- The reset window begins at (0, 0) (R204). -/
theorem resetKnown_sound (cfg : Params) (k : Option PanelRec) : (resetKnown cfg k).Sound :=
  sound_of_idle rfl (Nat.zero_le _) (Nat.zero_le _)

theorem Sound.endContext (h : r.Sound) (he : r.endContext = some r') : r'.Sound := by
  obtain ⟨hcols, hrows, -, -⟩ := h
  unfold PanelRec.endContext at he
  split at he
  case h_1 hctx => cases he; exact sound_of_idle hctx hcols hrows
  case h_2 => cases he; exact sound_of_idle rfl hcols hrows
  case h_3 =>
    split at he <;> cases he
    exact sound_of_idle rfl hcols hrows

/-- A wire command keeps the window, and the context it opens is sound. -/
theorem wireRecord_sound {i : Instr} {k : Option PanelRec} (hk : ∀ r, k = some r → r.Sound)
    (h : wireRecord cfg i k = some r') : r'.Sound := by
  by_cases hi : i = .swreset
  · subst hi
    cases h
    exact resetKnown_sound cfg k
  cases k with
  | none => rw [wireRecord_none hi] at h; cases h
  | some r =>
    have hr := hk r rfl
    cases i
    case swreset => exact absurd rfl hi
    case caset => cases h; exact hr.beginParams .caset
    case raset => cases h; exact hr.beginParams .raset
    case madctl => cases h; exact hr.beginParams .madctl
    case colmod => cases h; exact hr.beginParams .colmod
    case ramwr => cases h; exact hr.beginWrite
    all_goals cases h; exact hr

/-- A complete column range is taken only upright (R219). -/
theorem Sound.setColumns {s e : Half} (h : r.Sound) (hr : r.setColumns cfg s e = some r') :
    r'.Sound := by
  obtain ⟨-, hrows, -, -⟩ := h
  unfold PanelRec.setColumns at hr
  split at hr <;> cases hr
  exact sound_of_idle rfl (by show s.toNat ≤ e.toNat; omega) hrows

/-- A complete row range is taken only upright (R219). -/
theorem Sound.setRows {s e : Half} (h : r.Sound) (hr : r.setRows cfg s e = some r') : r'.Sound := by
  obtain ⟨hcols, -, -, -⟩ := h
  unfold PanelRec.setRows at hr
  split at hr <;> cases hr
  exact sound_of_idle rfl hcols (by show s.toNat ≤ e.toNat; omega)

/-- A parameter byte that is not the last one leaves the command short of bytes. -/
theorem Sound.collect {cmd : ParamCmd} {got : List Byte} (h : r.Sound)
    (hlen : got.length + 1 < cmd.count) (b : Byte) :
    ({ r with ctx := .params cmd (got ++ [b]) } : PanelRec).Sound := by
  obtain ⟨hcols, hrows, -, -⟩ := h
  refine ⟨hcols, hrows, by simp, fun cmd' got' e => ?_⟩
  cases e
  simpa using hlen

/-- A parameter byte completes its command or is collected (R219 to R221). -/
theorem Sound.param {cmd : ParamCmd} {got : List Byte} {b : Byte} (h : r.Sound)
    (hctx : r.ctx = .params cmd got) (hr : r.param cfg cmd got b = some r') : r'.Sound := by
  have ⟨hcols, hrows, _, hshort⟩ := h
  have hlen := hshort cmd got hctx
  have early (hfour : cmd.count = 4) (hne : ∀ p1 p2 p3, got ≠ [p1, p2, p3]) :
      got.length + 1 < cmd.count := by
    have : got.length ≠ 3 := fun h3 => by
      obtain ⟨p1, p2, p3, rfl⟩ := List.length_eq_three.1 h3
      exact hne p1 p2 p3 rfl
    omega
  unfold PanelRec.param at hr
  split at hr
  case h_1 => exact h.setColumns hr
  case h_2 => exact h.setRows hr
  case h_3 | h_4 => cases hr; exact sound_of_idle rfl hcols hrows
  case h_5 hne | h_6 hne => cases hr; exact h.collect (early rfl hne) b

/-- The cursor stays in an upright window (R215). -/
theorem advance_covers (h : r.Covers r.cx r.cy) : r.advance.Covers r.advance.cx r.advance.cy := by
  obtain ⟨hxs, hxe, hys, hye⟩ := h
  unfold PanelRec.advance
  split
  case isTrue hcol =>
    have hnext := half_succ_toNat hcol
    exact ⟨by simp only [hnext]; omega, by simp only [hnext]; omega, hys, hye⟩
  case isFalse =>
    refine ⟨Nat.le_refl _, Nat.le_trans hxs hxe, ?_⟩
    split
    case isTrue hrow =>
      have hnext := half_succ_toNat hrow
      exact ⟨by simp only [hnext]; omega, by simp only [hnext]; omega⟩
    case isFalse => exact ⟨Nat.le_refl _, Nat.le_trans hys hye⟩

/-- The first byte of a pixel is kept, the second stores it and moves the cursor (R215, R221). -/
theorem Sound.pixelByte {pending : Option Byte} {b : Byte} (h : r.Sound)
    (hctx : r.ctx = .memWrite pending) (hr : r.pixelByte cfg pending b = some r') : r'.Sound := by
  obtain ⟨hcols, hrows, hcursor, -⟩ := h
  have hcover : r.Covers r.cx r.cy := hcursor pending hctx
  unfold PanelRec.pixelByte at hr
  split at hr
  case isTrue => cases hr
  case isFalse =>
    cases pending with
    | none => cases hr; exact ⟨hcols, hrows, fun _ _ => hcover, by simp⟩
    | some hi =>
      cases hr
      have hmoved := advance_covers (r := { r with
        gram := r.gram.write (cellIndex r.cx r.cy) (joinBytes hi b), ctx := .memWrite none }) hcover
      rw [PanelRec.advance_eq] at hmoved ⊢
      exact ⟨hcols, hrows, fun _ _ => hmoved, by simp⟩

theorem Sound.data {b : Byte} (h : r.Sound) (hr : r.data cfg b = some r') : r'.Sound := by
  unfold PanelRec.data at hr
  split at hr
  case h_1 => cases hr; exact h
  case h_2 cmd got hctx => exact h.param hctx hr
  case h_3 pending hctx => exact h.pixelByte hctx hr

end PanelRec

/-! ### Sound panels -/

namespace Panel

variable {cfg : Params} {p : Panel}

/-- The record, when it is known, is sound. -/
def Sound (p : Panel) : Prop := ∀ r, p.known = some r → r.Sound

theorem Sound.unknownCommand (h : p.Sound) : p.unknownCommand.Sound := by
  unfold Panel.unknownCommand
  split
  · exact h
  · intro r hr
    cases hr

theorem Sound.atCommand (h : p.Sound) {r : PanelRec} (hr : p.atCommand = some r) : r.Sound := by
  cases hk : p.known with
  | none => rw [Panel.atCommand_of_unknown hk] at hr; cases hr
  | some r' =>
    rw [Panel.atCommand_of_known hk] at hr
    exact (h r' hk).endContext hr

theorem Sound.command (h : p.Sound) (i : Instr) : (p.command (wireRecord cfg i)).Sound := by
  cases hreset : p.inReset with
  | true => rwa [Panel.command_of_reset hreset]
  | false =>
    rw [Panel.command_of_awake hreset]
    exact fun r hr => PanelRec.wireRecord_sound (fun _ => h.atCommand) hr

theorem Sound.data (h : p.Sound) (b : Byte) : (p.data cfg b).Sound := by
  cases hreset : p.inReset with
  | true => rwa [Panel.data_of_reset hreset]
  | false =>
    rw [Panel.data_of_awake hreset]
    intro r' hr'
    obtain ⟨r, hr, hdata⟩ := Option.bind_eq_some_iff.1 hr'
    exact (h r hr).data hdata

theorem Sound.rst (h : p.Sound) (l : Bool) : (p.rst cfg l).Sound := by
  unfold Panel.rst
  split
  · exact h
  split
  · intro r hr
    cases hr
    exact PanelRec.resetKnown_sound cfg p.known
  · exact h

/-- Every event keeps a panel sound. -/
theorem Sound.event (h : p.Sound) (ev : WireEvent) : (p.event cfg ev).Sound := by
  cases ev with
  | cmd b =>
    cases hdec : decodeWire b with
    | ok i => rw [Panel.event_cmd p hdec]; exact h.command i
    | error e => rw [Panel.event_unknown p hdec]; exact h.unknownCommand
  | dat b => exact h.data b
  | rst l => exact h.rst l
  | cs _ | bl _ | wait _ => exact h

end Panel

/-- Settles O54. A step shows the panel at most one event, and every event keeps its record sound. -/
theorem stepKeepsPanel : Obligations.StepKeepsPanel := by
  intro s t h hs
  have hpanel : s.panel.Sound := h
  show t.panel.Sound
  rcases step_panel hs with e | ⟨cfg, ev, e⟩ <;> rw [e]
  · exact hpanel
  · exact hpanel.event ev

end Sys2Proof.Machine
end

section
namespace Sys2Proof.Machine

/-! ## Faults, halting and the registers -/

/-! ### A faulted block is halted -/

section Halting

variable {s t : State}

theorem State.halted_of_unfaulted (hf : s.faulted = false) : s.Halted := fun h => by simp [hf] at h

/-- A move that raises no fault, queues nothing on an empty queue and holds no free port. -/
theorem State.Halted.mono (h : s.Halted) (hfault : t.fault = s.fault)
    (hqueue : s.opQueue = [] → t.opQueue = []) (hp : s.portP.hold = none → t.portP.hold = none)
    (hc : s.portC.hold = none → t.portC.hold = none) : t.Halted := by
  intro hf
  obtain ⟨hempty, hfreeP, hfreeC⟩ := h (by simpa [State.faulted, hfault] using hf)
  exact ⟨hqueue hempty, hp hfreeP, hc hfreeC⟩

theorem State.Halted.complete (h : s.Halted) (pid : PortId) (ans : Option Word) :
    (s.complete pid ans).Halted := by
  refine h.mono (by simp) (by simp) ?_ ?_ <;> cases pid <;> simp

theorem State.Halted.release (h : s.Halted) (pid : PortId) : (s.release pid).Halted := by
  refine h.mono (by simp) (by simp) ?_ ?_ <;> cases pid <;> simp

/-- The list of a host is no hold. -/
theorem State.Halted.setReqs (h : s.Halted) (pid : PortId) (rest : List Access) :
    (s.setPort pid { s.port pid with reqs := rest }).Halted := by
  cases pid <;> exact h

/-- A fault discards the queue and ends every held access (60_exceptions.md R311). -/
theorem State.raiseFault_halted (s : State) (tr : Trap) (port disp : Bool) :
    (s.raiseFault tr port disp).Halted := fun _ => by simp

theorem RuleStep.faulted (hr : RuleStep s t) : t.faulted = s.faulted := by
  rw [State.faulted, State.faulted, hr.fault]

/-- An action queues events or holds a port only while the block is not faulted, and a fault it raises
halts the block. -/
theorem Act.halted (hact : Act s t) (h : s.Halted) : t.Halted := by
  cases hact
  case answer pid ans _ => exact h.complete pid ans
  case done hf hr => exact State.halted_of_unfaulted (by simpa [hr.faulted] using hf)
  case wait hf _ => exact State.halted_of_unfaulted (by simpa using hf)
  case start hf _ hr => exact State.halted_of_unfaulted (by simpa [hr.faulted] using hf)
  case trap pid tr ans _ _ => exact (s.raiseFault_halted tr pid.bit false).complete pid ans
  case reserved => exact State.raiseFault_halted _ _ true true
  case opTrap tr _ _ => exact s.raiseFault_halted tr true true
  case take w => exact h.mono (by simp) (by simp) (by simp) (by simp)
  case opDone hf hr => exact State.halted_of_unfaulted (by simpa [hr.faulted] using hf)
  case opStart hf _ _ _ hr => exact State.halted_of_unfaulted (hr.faulted.trans hf)
  case idle | opEnd | swreset | wire | unknownByte | line => exact h

end Halting

theorem halted_rule : StepRule State.Halted State.Halted where
  turn _ _ h := h
  release _ pid _ _ h := h.release pid
  issue _ pid rest _ h := h.setReqs pid rest
  perform _ _ _ hf _ _ := State.halted_of_unfaulted (by simpa [State.faulted] using hf)
  act _ _ h hact := hact.halted h

/-! ### The latch -/

section Latch

variable {s t : State}

/-- The codes end at 0x0E (60_exceptions.md R310). -/
theorem FaultCode.byte_toNat_le (c : FaultCode) : c.byte.toNat ≤ 0x0E := by cases c <;> decide

theorem State.LatchSound.congr (h : s.LatchSound) (hfault : t.fault = s.fault) : t.LatchSound := by
  unfold State.LatchSound
  rwa [hfault]

/-- An empty latch takes a code of R310, a full one keeps its own (60_exceptions.md R311, R313). -/
theorem State.LatchSound.raiseFault (h : s.LatchSound) (tr : Trap) (port disp : Bool) :
    (s.raiseFault tr port disp).LatchSound := by
  unfold State.LatchSound
  rw [State.raiseFault_fault]
  split
  · exact h
  · exact ⟨tr.code.byte_toNat_le, fun hzero => absurd hzero tr.code.byte_ne_zero⟩

/-- Only a raised fault writes the latch. -/
theorem Act.latchSound (hact : Act s t) (h : s.LatchSound) : t.LatchSound := by
  cases hact
  case done hr | start hr | opDone hr | opStart hr => exact h.congr (by simpa using hr.fault)
  case trap pid tr ans _ _ => exact (h.raiseFault tr pid.bit false).congr (by simp)
  case reserved => exact State.LatchSound.raiseFault (s := { s with p2c := none }) h _ true true
  case opTrap tr _ _ => exact h.raiseFault tr true true
  case answer | wait | take => exact h.congr (by simp)
  case idle | opEnd | swreset | wire | unknownByte | line => exact h

end Latch

theorem latchSound_rule : StepRule State.LatchSound State.LatchSound where
  turn _ _ h := h
  release _ _ _ _ h := h.congr (by simp)
  issue _ _ _ _ h := h.congr (by simp)
  perform _ _ _ _ _ h := h.congr (by simp)
  act _ _ h hact := hact.latchSound h

/-! ### P2C, the palette lock and FILL_COLOR -/

section Registers

variable {s t : State}

/-- A move that keeps PAL_LOCKED and FILL_COLOR and fills no empty P2C. -/
theorem State.RegsSound.mono (h : s.RegsSound) (hp2c : s.p2c = none → t.p2c = none)
    (hlock : t.palLocked = s.palLocked) (hcolor : t.fillColor = s.fillColor) : t.RegsSound := by
  obtain ⟨hlocked, hhigh⟩ := h
  exact ⟨fun hfull => hlock.trans (hlocked (mt hp2c hfull)), by rw [hcolor, hhigh]⟩

/-- A colour is stored without its high half (40_panellink.md R161). -/
theorem highHalf_zextHalf (c : Half) : highHalf (zextHalf c) = 0 := by
  apply BitVec.eq_of_toNat_eq
  have hlow : c.toNat < 2 ^ 16 := c.isLt
  have hword : c.toNat % 2 ^ 32 = c.toNat := Nat.mod_eq_of_lt (by omega)
  rw [highHalf, zextHalf, field_toNat, BitVec.toNat_setWidth, hword, Nat.div_eq_of_lt hlow]
  rfl

/-- The push that fills P2C locks the palette in the same step (42_mailbox.md R244), and no rule unlocks
it. -/
theorem RuleStep.regsSound (hr : RuleStep s t) (h : s.RegsSound) : t.RegsSound := by
  cases hr
  case fillColor c => exact ⟨h.1, highHalf_zextHalf c⟩
  case pushP2C => exact ⟨fun _ => rfl, h.2⟩
  case popP2C => exact h.mono (fun _ => rfl) rfl rfl
  all_goals exact h

/-- Besides its rule an action at most pops P2C. -/
theorem Act.regsSound (hact : Act s t) (h : s.RegsSound) : t.RegsSound := by
  cases hact
  case done hr | start hr | opDone hr | opStart hr =>
    exact (hr.regsSound h).mono (by simp) (by simp) (by simp)
  case take w =>
    refine h.mono (fun hempty => ?_) (by simp) (by simp)
    unfold State.takeCommand
    split
    · rfl
    · exact hempty
  case reserved => exact h.mono (fun _ => rfl) rfl rfl
  case answer | wait | trap => exact h.mono (by simp) (by simp) (by simp)
  case idle | opTrap | opEnd | swreset | wire | unknownByte | line => exact h

end Registers

theorem regsSound_rule : StepRule State.RegsSound State.RegsSound where
  turn _ _ h := h
  release _ _ _ _ h := h.mono (by simp) (by simp) (by simp)
  issue _ _ _ _ h := h.mono (by simp) (by simp) (by simp)
  perform _ _ _ _ _ h := h.mono (by simp) (by simp) (by simp)
  act _ _ h hact := hact.regsSound h

/-- Settles O50. No action of a faulted block queues or holds anything, only a raised fault writes the
latch, and only a push that locks the palette fills P2C; the reset empties all three. -/
theorem stepKeepsHaltLatchAndRegisters : Obligations.StepKeepsHaltLatchAndRegisters :=
  fun s _ hhalt hlatch hregs hs =>
    ⟨halted_rule.ensures hhalt hs fun _ _ => State.halted_of_unfaulted (State.blockReset_faulted _),
      latchSound_rule.ensures hlatch hs fun _ _ => ⟨by simp [FaultLatch.none], fun _ => rfl⟩,
      regsSound_rule.ensures hregs hs fun _ _ => ⟨by simp, by simp [highHalf]⟩⟩

/-! ### What a raised fault does to the ports -/

section HeldPorts

variable {q : Port} {i : Instr}

theorem Port.dropHeld_of_read (h : q.hold = some (.read i)) :
    q.dropHeld = { q with hold := none, answer := some 0 } := by simp [Port.dropHeld, h]

theorem Port.dropHeld_of_write_or_link (h : q.hold = some (.write i) ∨ q.hold = some .link) :
    q.dropHeld = { q with hold := none, answer := none } := by
  rcases h with h | h <;> simp [Port.dropHeld, h]

theorem State.raiseFault_port (s : State) (tr : Trap) (port disp : Bool) (pid : PortId) :
    (s.raiseFault tr port disp).port pid = (s.port pid).dropHeld := by cases pid <;> rfl

end HeldPorts

/-- Settles O30. The latch takes a code only when it is empty, and each port drops what it holds. -/
theorem faultReleasesHeldAccesses : Obligations.FaultReleasesHeldAccesses := by
  intro s tr port disp
  refine ⟨rfl, fun hf => ?first, fun hf => ?later, fun pid => ?ports⟩
  case first => simp [State.raiseFault_fault, hf]
  case later => simp [State.raiseFault_fault, hf]
  case ports =>
    rw [State.raiseFault_port]
    exact ⟨Port.dropHeld_of_none, fun _ => Port.dropHeld_of_read,
      fun _ => Port.dropHeld_of_write_or_link⟩

end Sys2Proof.Machine
end

section
namespace Sys2Proof.Machine

/-! ## The mailbox -/

/-! ### The mailbox rules that wait (42_mailbox.md R241, R245 to R247) -/

section Waiting

variable {s : State}

theorem pushP2C_of_notReady (h : s.p2c ≠ none ∨ s.busy = true) (v : Word) :
    pushP2C v s = .hold := by
  have hnot : ¬ s.sendReady = true := by
    rcases h with hfull | hbusy
    · simp [State.sendReady, hfull]
    · simp [State.sendReady, hbusy]
  rw [pushP2C, if_neg hnot]

theorem popP2C_of_empty (hempty : s.p2c = none) : popP2C s = .hold := by simp [popP2C, hempty]

theorem pushC2P_of_full (hfull : s.c2p ≠ none) (v : Word) : pushC2P v s = .hold := by
  obtain ⟨w, hw⟩ := Option.ne_none_iff_exists'.1 hfull
  simp [pushC2P, hw]

theorem popC2P_of_empty (hempty : s.c2p = none) : popC2P s = .hold := by simp [popC2P, hempty]

end Waiting

/-! ### How a mailbox access ends -/

section Ends

variable {s s' : State} {i : Instr} {isRead : Bool} {body : State → Effect}

/-- An access of P whose rule completes at once. -/
theorem answersP_of_done {v : Word} (hexec : exec i s = .next (s.access .p isRead i body))
    (hready : s.ReadyP) (hbody : body s = .done s' v) (hport : s'.portP = s.portP) :
    AnswersP i s s' (if isRead then some v else none) := by
  obtain ⟨hfree, hf⟩ := hready
  unfold AnswersP
  rw [hexec, State.access_of_done (by simpa using hfree) hf hbody]
  simp [State.complete, State.setPort, hport]

/-- An access whose rule waits holds its own port (10_state.md R37). -/
theorem exec_holds {pid : PortId} (hexec : exec i s = .next (s.access pid isRead i body))
    (hfree : (s.port pid).hold = none) (hf : s.faulted = false) (hbody : body s = .hold) :
    exec i s = .next (s.holdPort pid (if isRead then .read i else .write i)) := by
  rw [hexec, State.access_of_hold hfree hf hbody]

end Ends

/-- Settles O15. Each access is the shared access operation over a mailbox rule that completes. -/
theorem mailboxAccessesPerform : Obligations.MailboxAccessesPerform := by
  refine ⟨?send, ?receive, ?reply, ?fetch⟩
  case send =>
    intro s v hready hempty hbusy
    exact answersP_of_done (exec_wPMboxTx v s) hready (pushP2C_of_empty hempty hbusy v) rfl
  case receive =>
    intro s w ⟨hready, howned⟩ hfull
    exact answersC_of_done (exec_rCMboxRx s) hready
      ((ownerGuard_of_owned howned).trans (popP2C_of_full hfull)) rfl
  case reply =>
    intro s v hready hempty
    exact answersC_of_done (exec_wCMboxTx v s) hready (pushC2P_of_empty hempty v) rfl
  case fetch =>
    intro s w hready hfull
    exact answersP_of_done (exec_rPMboxRx s) hready (popC2P_of_full hfull) rfl

/-- Settles O16. Each access is the shared access operation over a mailbox rule that waits. -/
theorem mailboxAccessesHold : Obligations.MailboxAccessesHold := by
  refine ⟨?send, ?receive, ?reply, ?fetch⟩
  case send =>
    intro s v ⟨hfree, hf⟩ hblocked
    exact exec_holds (pid := .p) (exec_wPMboxTx v s) hfree hf (pushP2C_of_notReady hblocked v)
  case receive =>
    intro s ⟨⟨hfree, hf⟩, howned⟩ hempty
    exact exec_holds (pid := .c) (exec_rCMboxRx s) hfree hf
      ((ownerGuard_of_owned howned).trans (popP2C_of_empty hempty))
  case reply =>
    intro s v ⟨hfree, hf⟩ hfull
    exact exec_holds (pid := .c) (exec_wCMboxTx v s) hfree hf (pushC2P_of_full hfull v)
  case fetch =>
    intro s ⟨hfree, hf⟩ hempty
    exact exec_holds (pid := .p) (exec_rPMboxRx s) hfree hf (popC2P_of_empty hempty)

end Sys2Proof.Machine
end

section
namespace Sys2Proof.Machine

/-! ## BUSY and the rows in flight -/

/-! ### The count -/

/-- The rows that a command word stands for: one if it is a DRAW_LINE. -/
def wordRows (w : Word) : Nat := if commandTag w = 0x01#8 then 1 else 0

/-- The rows that wait in a mailbox slot. -/
def slotRows : Option Word → Nat
  | some w => wordRows w
  | none => 0

/-- The rows that D has popped and not yet freed. -/
def Phase.rows : Phase → Nat
  | .exec w _ _ => wordRows w
  | _ => 0

theorem State.rowsInFlight_eq (s : State) : s.rowsInFlight = slotRows s.p2c + s.phase.rows := by
  unfold State.rowsInFlight slotRows Phase.rows wordRows
  rfl

/-- BUSY is the number of rows in flight (43_busy_status.md R276). -/
def State.RowsExact (s : State) : Prop := slotRows s.p2c + s.phase.rows = s.busy.toNat

theorem State.busyExact_iff (s : State) :
    s.BusyExact ↔ (s.faulted = false → s.dispatchEn = true → s.RowsExact) := by
  unfold State.BusyExact State.RowsExact
  rw [State.rowsInFlight_eq]
  cases s.busy <;> rfl

/-- A faulted block counts no rows. -/
theorem State.busyExact_of_faulted {s : State} (hf : s.faulted = true) : s.BusyExact := by
  simp [hf]

theorem State.RowsExact.busyExact {s : State} (h : s.RowsExact) : s.BusyExact :=
  s.busyExact_iff.2 fun _ _ => h

/-- What counts the rows in `t` is what counts them in `s`. -/
structure State.SameRows (s t : State) : Prop where
  busy : t.busy = s.busy
  p2c : t.p2c = s.p2c
  phase : t.phase = s.phase
  cfg : t.cfg = s.cfg

theorem State.RowsExact.congr {s t : State} (h : s.RowsExact) (hbusy : t.busy = s.busy)
    (hp2c : t.p2c = s.p2c) (hphase : t.phase = s.phase) : t.RowsExact := by
  unfold State.RowsExact
  rwa [hbusy, hp2c, hphase]

theorem State.SameRows.rowsExact {s t : State} (hsame : s.SameRows t) (h : s.RowsExact) :
    t.RowsExact := h.congr hsame.busy hsame.p2c hsame.phase

theorem State.SameRows.refl (s : State) : s.SameRows s := ⟨rfl, rfl, rfl, rfl⟩

/-! ### The rules -/

/-- `P` holds of the state that a rule completes or starts its operation in. -/
def Effect.Leaves (P : State → Prop) : Effect → Prop
  | .done s' _ | .start s' _ => P s'
  | .hold | .trap _ => True

section Rules

variable {s : State} {P : State → Prop}

theorem streamGuard_leaves {off : Half} {body : State → Effect} (h : (body s).Leaves P) :
    (streamGuard off body s).Leaves P := by
  cases hopen : s.streamOpen with
  | false => rwa [streamGuard_of_closed hopen]
  | true => rw [streamGuard_of_open hopen]; trivial

/-- While the dispatcher is enabled agent C's own rule is not reached (R269). -/
theorem ownerGuard_leaves {off : Half} {body : State → Effect} (hen : s.dispatchEn = true) :
    (ownerGuard off body s).Leaves P := by
  rw [ownerGuard_of_dispatcher hen]
  trivial

theorem linkSetAddress_sameRows (v : Word) : (linkSetAddress v s).Leaves s.SameRows := by
  refine streamGuard_leaves ?_
  split
  · trivial
  · exact ⟨rfl, rfl, rfl, rfl⟩

theorem linkPixel_sameRows (v : Word) : (linkPixel v s).Leaves s.SameRows := by
  unfold linkPixel
  split
  · exact .refl s
  · trivial

theorem linkStreamEnd_sameRows : (linkStreamEnd s).Leaves s.SameRows := by
  unfold linkStreamEnd
  split
  · exact ⟨rfl, rfl, rfl, rfl⟩
  · trivial

theorem linkDrawLine_sameRows (v : Word) : (linkDrawLine v s).Leaves s.SameRows := by
  refine streamGuard_leaves ?_
  dsimp only
  split
  · trivial
  · split
    · trivial
    · split
      · trivial
      · exact ⟨rfl, rfl, rfl, rfl⟩

/-- Of D's operations only C_BUSY_CLR writes what counts the rows. -/
theorem dispatcherOp_sameRows {off : Half} (hoff : off ≠ 0x0004) (v : Word) :
    (dispatcherOp off v s).Leaves s.SameRows := by
  unfold dispatcherOp
  split
  · exact absurd (BitVec.eq_of_toNat_eq ‹off.toNat = _›) hoff
  · exact linkSetAddress_sameRows v
  · exact streamGuard_leaves ⟨rfl, rfl, rfl, rfl⟩
  · exact linkPixel_sameRows v
  · exact linkStreamEnd_sameRows
  · exact streamGuard_leaves (.refl s)
  · exact streamGuard_leaves (.refl s)
  · exact linkDrawLine_sameRows v
  · exact .refl s

theorem paletteWrite_sameRows (k : BitVec 4) (v : Word) : (paletteWrite k v s).Leaves s.SameRows := by
  unfold paletteWrite
  split
  · trivial
  · exact ⟨rfl, rfl, rfl, rfl⟩

theorem paletteRead_sameRows (k : BitVec 4) : (paletteRead k s).Leaves s.SameRows := by
  unfold paletteRead
  split
  · trivial
  · exact .refl s

theorem linebufIndexGuard_leaves {i : BitVec 10} {body : State → Effect} (h : (body s).Leaves P) :
    (linebufIndexGuard i body s).Leaves P := by
  unfold linebufIndexGuard
  split
  · trivial
  · exact h

theorem linebufWriteP_sameRows (i : BitVec 10) (v : Word) :
    (linebufWriteP i v s).Leaves s.SameRows := by
  refine linebufIndexGuard_leaves ?_
  split
  · trivial
  · exact ⟨rfl, rfl, rfl, rfl⟩

theorem linebufReadP_sameRows (i : BitVec 10) : (linebufReadP i s).Leaves s.SameRows := by
  refine linebufIndexGuard_leaves ?_
  split
  · trivial
  · unfold linebufRead
    split
    · trivial
    · exact .refl s

theorem pushC2P_sameRows (v : Word) : (pushC2P v s).Leaves s.SameRows := by
  unfold pushC2P
  split
  · exact ⟨rfl, rfl, rfl, rfl⟩
  · trivial

theorem popC2P_sameRows : (popC2P s).Leaves s.SameRows := by
  unfold popC2P
  split
  · exact ⟨rfl, rfl, rfl, rfl⟩
  · trivial

/-- A dispatcher that has left OFF is not started again (R268). -/
theorem ctrlWrite_sameRows (hp : s.phase ≠ .off) (v : Word) :
    (ctrlWrite v s).Leaves s.SameRows := by
  unfold ctrlWrite
  split
  · split
    · trivial
    · exact ⟨rfl, rfl, rfl, rfl⟩
  · exact .refl s

theorem Effect.Leaves.mono {Q : State → Prop} {e : Effect} (h : e.Leaves P)
    (himp : ∀ t, P t → Q t) : e.Leaves Q := by
  cases e with
  | done | start => exact himp _ h
  | hold | trap => trivial

/-- A send proceeds only with no row in flight, and puts one there exactly for a DRAW_LINE
(42_mailbox.md R241, R243). -/
theorem pushP2C_rowsExact (h : s.RowsExact) (v : Word) : (pushP2C v s).Leaves State.RowsExact := by
  unfold pushP2C
  split
  case isFalse => trivial
  case isTrue hready =>
    obtain ⟨hempty, hfree⟩ : s.p2c = none ∧ s.busy = false := by
      simpa [State.sendReady] using hready
    have hphase : s.phase.rows = 0 := by simpa [State.RowsExact, hempty, hfree, slotRows] using h
    by_cases htag : commandTag v = 0x01#8 <;>
      simp [Effect.Leaves, State.RowsExact, slotRows, wordRows, hphase, hfree, htag]

end Rules

/-! ### Accesses -/

section Accesses

variable {s t : State} {i : Instr}

theorem State.RowsExact.complete (h : s.RowsExact) (pid : PortId) (ans : Option Word) :
    (s.complete pid ans).RowsExact := h.congr (by simp) (by simp) (by simp)

/-- An access keeps the count if its rule does; a fault ends it. -/
theorem State.RowsExact.access (h : s.RowsExact) {pid : PortId} {isRead : Bool}
    {body : State → Effect} (hb : (body s).Leaves State.RowsExact) :
    (s.access pid isRead i body).BusyExact := by
  rcases State.access_cases s pid isRead i body with
    ⟨-, e⟩ | ⟨-, -, e⟩ | ⟨-, -, ⟨s', v, hs, e⟩ | ⟨hs, e⟩ | ⟨s', hs, e⟩ | ⟨s', q, r, hs, e⟩ |
      ⟨t, hs, e⟩⟩ <;> rw [e]
  · exact h.busyExact
  · exact (h.complete pid _).busyExact
  · rw [hs] at hb
    exact (State.RowsExact.complete hb pid _).busyExact
  · exact (h.congr (by simp) (by simp) (by simp)).busyExact
  · rw [hs] at hb
    exact (State.RowsExact.complete hb pid _).busyExact
  · rw [hs] at hb
    exact (State.RowsExact.congr hb (by simp) (by simp) (by simp)).busyExact
  · exact State.busyExact_of_faulted (by simp)

/-- An access whose rule writes nothing that counts the rows. -/
theorem State.RowsExact.accessSame (h : s.RowsExact) {pid : PortId} {isRead : Bool}
    {body : State → Effect} (hb : (body s).Leaves s.SameRows) :
    (s.access pid isRead i body).BusyExact :=
  h.access (hb.mono fun _ hsame => hsame.rowsExact h)

theorem State.RowsExact.statusRead (h : s.RowsExact) (pid : PortId) (v : Word) :
    (s.statusRead pid v).BusyExact := by
  unfold State.statusRead
  split
  · exact h.busyExact
  · exact (h.complete pid _).busyExact

theorem State.RowsExact.refuseAccess (h : s.RowsExact) (pid : PortId) (a : Access)
    (e : DecodeError) : (s.refuseAccess pid a e).BusyExact := by
  unfold State.refuseAccess
  split
  · exact (h.complete pid _).busyExact
  · exact State.busyExact_of_faulted (by simp)

/-- While the dispatcher is enabled every access but a 1 to P_BUSY keeps the count: what else would
change it agent C may not do (43_busy_status.md R269). -/
theorem State.RowsExact.execAccess (h : s.RowsExact) (hen : s.dispatchEn = true)
    (hp : s.phase ≠ .off) {width : Nat} {A : BitVec 18} {D : Word}
    (henc : encode i = .access width A D)
    (hset : ∀ v, i = .wPBusy v → v.getLsbD 0 = false) (he : exec i s = .next t) :
    t.BusyExact := by
  cases i
  case rPStatus | rPFault | rCStatus | rCFault => cases he; exact h.statusRead _ _
  case wPStatus | wPMboxRx | wPFault | wCStatus | wCMboxRx | wCFault | rPMboxTx | rCMboxTx | rPBusy |
      rCBusyClr | rCCtrl | rCBacklight => cases he; exact h.accessSame (.refl s)
  case wPBusy v =>
    cases he
    refine h.accessSame ?_
    have hclear : ¬ boolOperand v = true := by simpa [boolOperand] using hset v rfl
    simp only [hclear]
    exact .refl s
  case wPMboxTx v => cases he; exact h.access (pushP2C_rowsExact h v)
  case rPMboxRx => cases he; exact h.accessSame popC2P_sameRows
  case wCMboxTx v => cases he; exact h.accessSame (pushC2P_sameRows v)
  case wCCtrl v => cases he; exact h.accessSame (ctrlWrite_sameRows hp v)
  case wCBacklight v => cases he; exact h.accessSame (body := linkBacklight v) ⟨rfl, rfl, rfl, rfl⟩
  case rPPalette k | rCPalette k => cases he; exact h.accessSame (paletteRead_sameRows k)
  case wPPalette k v | wCPalette k v => cases he; exact h.accessSame (paletteWrite_sameRows k v)
  case rPLinebuf i => cases he; exact h.accessSame (linebufReadP_sameRows i)
  case wPLinebuf i v => cases he; exact h.accessSame (linebufWriteP_sameRows i v)
  case rCLinebuf | wCLinebuf =>
    cases he
    exact h.access (linebufIndexGuard_leaves (ownerGuard_leaves hen))
  case wCBusyClr | rCMboxRx | rCInit | wCInit | rCWinCol | wCWinCol | rCWinRow | wCWinRow | rCWinApply |
      wCWinApply | rCSetAddress | wCSetAddress | rCStreamBegin | wCStreamBegin | rCPixel | wCPixel |
      rCStreamEnd | wCStreamEnd | rCFillColor | wCFillColor | rCFillXY | wCFillXY | rCFillWH |
      wCFillWH | rCFillGo | wCFillGo | rCInvert | wCInvert | rCPower | wCPower | rCIdle | wCIdle |
      rCDrawLine | wCDrawLine =>
    cases he
    exact h.access (ownerGuard_leaves hen)
  all_goals cases henc

end Accesses

/-! ### The dispatcher and the engine -/

/-- A word's phase counts its rows until its last operation is complete. -/
theorem execPhase_rows {w : Word} {n k : Nat} (h : commandTag w = 0x01#8 → k < n) :
    (execPhase w n k).rows = wordRows w := by
  rw [execPhase_eq]
  split
  case isTrue => rfl
  case isFalse hlast => exact (if_neg (mt h hlast)).symm

/-- The operations of a DRAW_LINE are the draw and then the only C_BUSY_CLR of all words (R293). -/
theorem drawLine_operations {cfg : Params} {w : Word} {k : Nat} {off : Half} {v : Word}
    (hop : (commandOps cfg w)[k]? = some (off, v)) :
    (commandTag w = 0x01#8 → off ≠ 0x0004 → k + 1 < (commandOps cfg w).length) ∧
    (off = 0x0004 → commandTag w = 0x01#8 ∧ (commandOps cfg w).length = k + 1 ∧ v = 1) := by
  rcases commandOps_cases cfg w with e | ⟨row, rfl, e⟩ | ⟨invert, idle, rfl, e⟩ | ⟨c, rfl, e⟩ <;>
    rw [e] at hop ⊢
  · simp at hop
  · rw [commandTag_drawLineWord]
    match k with
    | 0 => cases hop; exact ⟨by simp [drawLineOps], by simp⟩
    | 1 => cases hop; exact ⟨by simp, fun _ => ⟨rfl, rfl, rfl⟩⟩
    | k + 2 => simp [drawLineOps] at hop
  · rw [commandTag_setIdleWord]
    refine ⟨by simp, fun hoff => ?_⟩
    have := List.mem_of_getElem? hop
    simp [setIdleOps, hoff] at this
  · rw [commandTag_setPixelWord]
    refine ⟨by simp, fun hoff => ?_⟩
    have := List.mem_of_getElem? hop
    simp [setPixelOps, hoff] at this

section Dispatcher

variable {s t : State} {w : Word} {k : Nat}

/-- The pop of a word moves its row from P2C to D. -/
theorem State.RowsExact.takeCommand (h : s.RowsExact) (hfull : s.p2c = some w)
    {ops : List (Half × Word)} (hops : commandTag w = 0x01#8 → 0 < ops.length) :
    (s.takeCommand w ops).RowsExact := by
  unfold State.takeCommand
  split
  case isTrue hready =>
    have hcount : wordRows w + 0 = s.busy.toNat := by
      simpa [State.RowsExact, hfull, slotRows, Phase.rows, State.phase_of_dispatcherReady hready]
        using h
    show 0 + (execPhase w ops.length 0).rows = s.busy.toNat
    rw [execPhase_rows hops]
    omega
  case isFalse => exact h

/-- D's pop of the word in P2C: a DRAW_LINE has operations, and a reserved word faults. -/
theorem State.RowsExact.execCommand (h : s.RowsExact) (hready : s.dispatcherReady = true)
    (hfull : s.p2c = some w) (he : exec (decodeCommand w) s = .next t) : t.BusyExact := by
  unfold decodeCommand at he
  split at he
  case isTrue hword =>
    subst hword
    cases he
    exact (h.takeCommand hfull (by decide)).busyExact
  split at he
  case isTrue hword =>
    have e : drawLineWord (w.extractLsb' 0 16) = w := append_operand hword
    cases he
    exact (e.symm ▸ h.takeCommand hfull (ops := drawLineOps _) (by simp [drawLineOps])).busyExact
  split at he
  case isTrue hword =>
    have e := setIdleWord_of_fields hword
    cases he
    exact (e.symm ▸ h.takeCommand hfull (ops := setIdleOps _ _) (by simp [setIdleOps])).busyExact
  split at he
  case isTrue hword =>
    have e : setPixelWord (w.extractLsb' 0 16) = w := append_operand hword
    cases he
    exact (e.symm ▸ h.takeCommand hfull (ops := setPixelOps _ _) (by simp [setPixelOps])).busyExact
  cases he
  rw [if_pos hready]
  exact State.busyExact_of_faulted (by simp)

/-- An operation that is not a DRAW_LINE's last leaves D with the row. -/
theorem State.RowsExact.dispatcherDone (h : s.RowsExact) {issued : Bool}
    (hp : s.phase = .exec w k issued)
    (hmore : commandTag w = 0x01#8 → k + 1 < (commandOps s.cfg w).length) :
    s.dispatcherDone.RowsExact := by
  have hphase : s.dispatcherDone.phase.rows = s.phase.rows := by
    simp only [State.dispatcherDone, hp]
    exact execPhase_rows hmore
  simpa [State.RowsExact, hphase] using h

/-- D's mark_free clears BUSY with the row's last operation (R276, R293). -/
theorem State.RowsExact.dispatcherFree (h : s.RowsExact) (hp : s.phase = .exec w k false)
    (htag : commandTag w = 0x01#8) (hlast : (commandOps s.cfg w).length = k + 1) :
    ({ s with busy := false } : State).dispatcherDone.RowsExact := by
  have hcount : slotRows s.p2c + 1 = s.busy.toNat := by
    simpa [State.RowsExact, hp, Phase.rows, wordRows, htag] using h
  have hslot : slotRows s.p2c = 0 := by have := Bool.toNat_le s.busy; omega
  simp [State.RowsExact, State.dispatcherDone, hp, hlast, execPhase_eq, Phase.rows, hslot]

/-- D issues an operation: only C_BUSY_CLR ends a row. -/
theorem State.RowsExact.dispatcherIssue (h : s.RowsExact) (hp : s.phase = .exec w k false)
    {off : Half} {v : Word} (hop : (commandOps s.cfg w)[k]? = some (off, v)) :
    (s.dispatcherIssue w k off v).BusyExact := by
  obtain ⟨hmore, hlast⟩ := drawLine_operations hop
  by_cases hoff : off = 0x0004
  · obtain ⟨htag, hlen, rfl⟩ := hlast hoff
    subst hoff
    exact (h.dispatcherFree hp htag hlen).busyExact
  · have hrule := dispatcherOp_sameRows (s := s) hoff v
    have hdone {s' : State} (hsame : s.SameRows s') : s'.dispatcherDone.BusyExact := by
      refine ((hsame.rowsExact h).dispatcherDone (hsame.phase.trans hp) fun htag => ?_).busyExact
      rw [hsame.cfg]
      exact hmore htag hoff
    unfold State.dispatcherIssue
    cases heff : dispatcherOp off v s with
    | done s' _ => rw [heff] at hrule; exact hdone hrule
    | hold => exact h.busyExact
    | start s' q =>
      rw [heff] at hrule
      cases q with
      | nil => exact hdone hrule
      | cons q r =>
        have hrows : s'.RowsExact := hrule.rowsExact h
        refine State.RowsExact.busyExact ?_
        simpa [State.RowsExact, hrule.phase, hp, Phase.rows] using hrows
    | trap tr => exact State.busyExact_of_faulted (by simp)

/-- The turn of the dispatcher. -/
theorem State.RowsExact.stepDispatcher (h : s.RowsExact) (hphase : s.PhaseSound)
    (hs : Machine.stepDispatcher s = .next t) : t.BusyExact := by
  rcases stepDispatcher_cases s with e | ⟨hf, hp, w, hfull, e⟩ | ⟨hf, w, k, issued, hp, e⟩ <;>
    rw [e] at hs
  · cases hs
    exact h.busyExact
  · exact h.execCommand (by simp [State.dispatcherReady, hf, hp, hfull]) hfull hs
  · cases hs
    cases issued with
    | true => exact h.busyExact
    | false =>
      have ⟨_, hops⟩ := hphase
      obtain ⟨⟨off, v⟩, hop, -⟩ := hops w k false hp
      rw [dispatcherExec_issues hop]
      exact h.dispatcherIssue hp hop

/-- D waits for E only in EXEC(w, k) with its operation issued (R290). -/
theorem Phase.exec_of_outstanding {p : Phase} (h : 0 < p.outstanding) : ∃ w k, p = .exec w k true := by
  unfold Phase.outstanding at h
  split at h
  · exact ⟨_, _, rfl⟩
  · cases h

/-- E completes an operation of D's that was outstanding, which is none of its C_BUSY_CLR's. -/
theorem State.PhaseSound.perform_rows (h : s.PhaseSound) {q : QItem}
    (hout : q.ends = some .disp → 0 < s.phase.outstanding) :
    (s.perform q).phase.rows = s.phase.rows := by
  by_cases hends : q.ends = some .disp
  · obtain ⟨w, k, hp⟩ := Phase.exec_of_outstanding (hout hends)
    obtain ⟨-, hops⟩ := h
    obtain ⟨⟨off, v⟩, hop, hoff⟩ := hops w k true hp
    rw [State.perform_phase_of_disp hends hp, hp]
    exact execPhase_rows fun htag => (drawLine_operations hop).1 htag (hoff rfl)
  · rw [State.perform_phase_of_ne hends]

/-- An entry of D's is queued only while D waits for it (40_panellink.md R145). -/
theorem State.EngineSound.outstanding_of_head (h : s.EngineSound) (hf : s.faulted = false)
    {q : QItem} {rest : List QItem} (hqueue : s.opQueue = q :: rest) (hends : q.ends = some .disp) :
    0 < s.phase.outstanding := by
  obtain ⟨-, hdisp⟩ := s.engineSound_iff.1 h
  rw [← hdisp hf]
  simp [State.pendingEnds, hqueue, hends]

/-- The turn of the engine. -/
theorem State.RowsExact.engineTurn (h : s.RowsExact) (hphase : s.PhaseSound)
    (hengine : s.EngineSound) (hf : s.faulted = false) (hready : s.readyHeld = none)
    {ts : List Turn} (hturns : s.turns = .e :: ts) (hs : step s = .next t) : t.BusyExact := by
  refine State.RowsExact.busyExact ?_
  cases hqueue : s.opQueue with
  | nil =>
    have hidle : stepEngine { s with turns := ts } = .next { s with turns := ts } := by
      simp [stepEngine, State.nextItem, hqueue]
    rw [step_of_turn hready hturns, stepTurn, hidle] at hs
    cases hs
    exact h
  | cons q rest =>
    have hrows := State.PhaseSound.perform_rows (s := { s with turns := ts, opQueue := rest }) hphase
      (hengine.outstanding_of_head hf hqueue)
    rw [step_performs hready hf hturns hqueue] at hs
    cases hs
    simpa [State.RowsExact, State.performed, hrows] using h

end Dispatcher

/-! ### A step -/

section Step

variable {s t : State}

/-- A host issues an access of its list. -/
theorem State.nextAccess_mem {s' : State} {pid : PortId} {a : Access}
    (h : s.nextAccess pid = some (a, s')) : a ∈ (s.port pid).reqs := by
  unfold State.nextAccess at h
  split at h
  case h_1 hreqs =>
    cases h
    simp [hreqs]
  case h_2 => cases h
  case h_3 => cases h

/-- Only a write to P_BUSY's offset on the P-port is P_BUSY's write, with its own data word. -/
theorem wPBusy_of_decodeAccess {pid : PortId} {a : Access} {v : Word}
    (h : s.decodeAccess pid a = .ok (.wPBusy v)) :
    pid = .p ∧ a.write = true ∧ a.off = 0x0004 ∧ a.data = v := by
  obtain ⟨henc, -⟩ := decodeOffset_eq_ok h
  injection henc with _ hdesc hdata
  have hport := congrArg (·.getLsbD 17) hdesc
  have hwr := congrArg (·.getLsbD 16) hdesc
  have hoff := congrArg (·.extractLsb' 0 16) hdesc
  simp only [descriptor_port, descriptor_wr, descriptor_off] at hport hwr hoff
  refine ⟨?_, hwr.symm, hoff.symm, ?_⟩
  · cases pid with
    | p => rfl
    | c => cases hport
  · simpa [← hwr] using hdata.symm

/-- The turn of a host, as long as P does not set BUSY by hand. -/
theorem State.RowsExact.stepHost (h : s.RowsExact) (hen : s.dispatchEn = true)
    (hp : s.phase ≠ .off) (pid : PortId)
    (hset : ∀ a ∈ s.portP.reqs, a.write = true → a.off = 0x0004 → a.data.getLsbD 0 = false)
    (hs : Machine.stepHost pid s = .next t) : t.BusyExact := by
  rcases stepHost_cases pid s with ⟨-, e⟩ | ⟨a, s', hn, hcases⟩
  · rw [e] at hs
    cases hs
    exact h.busyExact
  · have hmem := State.nextAccess_mem hn
    obtain ⟨-, rest, rfl⟩ := State.nextAccess_eq_some hn
    have hissued := h.congr (t := s.setPort pid { s.port pid with reqs := rest }) (by simp) (by simp)
      (by simp)
    rcases hcases with ⟨i, hdec, e⟩ | ⟨e', -, e⟩ <;> rw [e] at hs
    · refine hissued.execAccess (by simpa using hen) (by simpa using hp)
        (decodeOffset_eq_ok hdec).1 (fun v hi => ?_) hs
      subst hi
      obtain ⟨rfl, hwr, hoff, rfl⟩ := wPBusy_of_decodeAccess hdec
      exact hset a hmem hwr hoff
    · cases hs
      exact hissued.refuseAccess pid a e'

/-- A held access that is ready is none that sets BUSY by hand. -/
theorem State.RowsExact.execHeld (h : s.RowsExact) (hen : s.dispatchEn = true)
    (hp : s.phase ≠ .off) (hholds : s.HoldsSound) {pid : PortId} {i : Instr}
    (hready : s.readyHeld = some (pid, i)) (hs : exec i (s.release pid) = .next t) :
    t.BusyExact := by
  have hreleased := h.congr (t := s.release pid) (by simp) (by simp) (by simp)
  obtain ⟨-, hheld⟩ := State.readyHeld_held hready
  obtain ⟨hholdP, hholdC⟩ := hholds
  obtain ⟨⟨_, _, _, henc⟩, hset⟩ :
      (∃ width A D, encode i = .access width A D) ∧ ∀ v, i ≠ .wPBusy v := by
    cases pid with
    | p =>
      rcases hheld with e | e <;> rcases hholdP _ e with e' | ⟨v, e'⟩ <;> cases e' <;>
        exact ⟨⟨_, _, _, rfl⟩, nofun⟩
    | c =>
      rcases hheld with e | e <;> rcases hholdC _ e with e' | ⟨v, e'⟩ | e' <;> cases e' <;>
        exact ⟨⟨_, _, _, rfl⟩, nofun⟩
  exact hreleased.execAccess (by simpa using hen) (by simpa using hp) henc
    (fun v hi => absurd hi (hset v)) hs

/-- No action clears the latch. -/
theorem Act.faulted (hact : Act s t) (hf : s.faulted = true) : t.faulted = true := by
  cases hact
  case done hr => simpa [hr.faulted] using hf
  case start hr => simpa [hr.faulted] using hf
  case opDone hr => simpa [State.faulted, hr.fault] using hf
  case opStart hr => exact hr.faulted.trans hf
  case answer | wait | take => simpa [State.faulted] using hf
  case trap | reserved | opTrap => simp
  case idle | opEnd | swreset | wire | unknownByte | line => exact hf

/-- Only a block reset clears the latch (60_exceptions.md R317). -/
theorem faulted_busyExact_rule : StepRule (·.faulted = true) State.BusyExact where
  turn _ _ h := h
  release _ _ _ _ h := by simpa using h
  issue _ _ _ _ h := by simpa using h
  perform _ _ _ hf _ h := by simp [hf] at h
  act _ _ h hact := State.busyExact_of_faulted (hact.faulted h)

/-- An enabled dispatcher has left OFF. -/
theorem State.PhaseSound.ne_off (h : s.PhaseSound) (hen : s.dispatchEn = true) : s.phase ≠ .off := by
  obtain ⟨hoff, -⟩ := h
  rw [ne_eq, hoff, hen]
  simp

/-- Settles O57. A faulted block counts no rows; else the count goes through the agent whose step it is,
and the reset disables the dispatcher. -/
theorem stepKeepsBusyExact : Obligations.StepKeepsBusyExact := by
  intro s t hinv hexact hen hset hs
  have hreset (u : State) : u.blockReset.BusyExact := fun _ hd => by simp at hd
  cases hf : s.faulted with
  | true => exact faulted_busyExact_rule.ensures hf hs fun _ _ => hreset _
  | false =>
    have h : s.RowsExact := s.busyExact_iff.1 hexact hf hen
    have hp := hinv.phase.ne_off hen
    rcases step_cases s with ⟨pid, i, hready, e⟩ | ⟨-, -, e⟩ | ⟨turn, ts, hready, hturns, e⟩
    · exact h.execHeld hen hp hinv.holds hready (e.symm.trans hs)
    · cases e.symm.trans hs
      exact hexact
    · have hturn : ({ s with turns := ts } : State).RowsExact := h
      cases turn with
      | p => exact hturn.stepHost hen hp .p hset (e.symm.trans hs)
      | c => exact hturn.stepHost hen hp .c hset (e.symm.trans hs)
      | d => exact hturn.stepDispatcher hinv.phase (e.symm.trans hs)
      | e => exact h.engineTurn hinv.phase hinv.engine hf hready hturns hs
      | reset =>
        cases e.symm.trans hs
        exact hreset _

end Step

end Sys2Proof.Machine
end

section
namespace Sys2Proof.Machine

/-! ## The accesses that change nothing -/

/-! ### What an access runs -/

/-- The operations that answer in every state (43_busy_status.md R277). -/
def statusReads : List Instr := [.rPStatus, .rCStatus, .rPFault, .rCFault]

/-- An access of port `pid` is a status read, or the shared access operation over a rule of its own. -/
inductive AccessForm (i : Instr) (pid : PortId) (isRead : Bool) : Prop
  | status (v : State → Word) (hmem : i ∈ statusReads)
      (hexec : ∀ s, exec i s = .next (s.statusRead pid (v s)))
  | rule (body : State → Effect) (hexec : ∀ s, exec i s = .next (s.access pid isRead i body))

/-- The descriptor of an access says its port and whether it reads (30_encoding.md R100). -/
structure AccessAt (i : Instr) (A : BitVec 18) (pid : PortId) (isRead : Bool) : Prop where
  port : A.getLsbD 17 = pid.bit
  wr : A.getLsbD 16 = !isRead
  form : AccessForm i pid isRead

section Forms

variable {i : Instr} {width : Nat} {A : BitVec 18} {D : Word}

theorem accessAt_of_code {pid : PortId} {isRead : Bool} {off : Half} {v : Word}
    (hform : AccessForm i pid isRead)
    (hcode : encode i = .access 32 (descriptor pid.bit (!isRead) off) v)
    (henc : encode i = .access width A D) : ∃ pid isRead, AccessAt i A pid isRead := by
  cases hcode.symm.trans henc
  exact ⟨pid, isRead, descriptor_port .., descriptor_wr .., hform⟩

/-- Every operation with the code of an access. -/
theorem accessAt_of_encode (henc : encode i = .access width A D) :
    ∃ pid isRead, AccessAt i A pid isRead := by
  cases i
  case rPStatus | rPFault =>
    exact accessAt_of_code (pid := .p) (isRead := true) (.status _ (by decide) fun _ => rfl) rfl henc
  case rCStatus | rCFault =>
    exact accessAt_of_code (pid := .c) (isRead := true) (.status _ (by decide) fun _ => rfl) rfl henc
  case rPBusy | rPMboxTx | rPMboxRx | rPPalette | rPLinebuf =>
    exact accessAt_of_code (pid := .p) (isRead := true) (.rule _ fun _ => rfl) rfl henc
  case wPStatus | wPBusy | wPMboxTx | wPMboxRx | wPFault | wPPalette | wPLinebuf =>
    exact accessAt_of_code (pid := .p) (isRead := false) (.rule _ fun _ => rfl) rfl henc
  case rCBusyClr | rCMboxRx | rCMboxTx | rCCtrl | rCInit | rCWinCol | rCWinRow | rCWinApply |
      rCSetAddress | rCStreamBegin | rCPixel | rCStreamEnd | rCFillColor | rCFillXY | rCFillWH |
      rCFillGo | rCInvert | rCPower | rCBacklight | rCIdle | rCDrawLine | rCPalette | rCLinebuf =>
    exact accessAt_of_code (pid := .c) (isRead := true) (.rule _ fun _ => rfl) rfl henc
  case wCStatus | wCBusyClr | wCMboxRx | wCMboxTx | wCFault | wCCtrl | wCInit | wCWinCol | wCWinRow |
      wCWinApply | wCSetAddress | wCStreamBegin | wCPixel | wCStreamEnd | wCFillColor | wCFillXY |
      wCFillWH | wCFillGo | wCInvert | wCPower | wCBacklight | wCIdle | wCDrawLine | wCPalette |
      wCLinebuf =>
    exact accessAt_of_code (pid := .c) (isRead := false) (.rule _ fun _ => rfl) rfl henc
  all_goals cases henc

variable {pid : PortId} {isRead : Bool} {s : State}

/-- A port whose access is held accepts no other (10_state.md R37; log 19). -/
theorem AccessForm.exec_of_held (h : AccessForm i pid isRead) (hheld : (s.port pid).hold ≠ none) :
    exec i s = .next s := by
  have hsome : (s.port pid).hold.isSome = true := Option.isSome_iff_ne_none.2 hheld
  cases h with
  | status v _ hexec => rw [hexec, State.statusRead, if_pos hsome]
  | rule body hexec => rw [hexec, State.access_of_held hsome]

/-- A faulted block only answers (43_busy_status.md R277). -/
theorem AccessForm.exec_of_faulted (h : AccessForm i pid isRead) (hfree : (s.port pid).hold = none)
    (hf : s.faulted = true) (hno : i ∉ statusReads) :
    exec i s = .next (s.complete pid (if isRead then some 0 else none)) := by
  cases h with
  | status v hmem _ => exact absurd hmem hno
  | rule body hexec => rw [hexec, State.access_of_faulted hfree hf]

end Forms

/-! ### A refused access of a faulted block -/

section Refused

variable {s : State} {pid : PortId} {a : Access} {rest : List Access} {ts : List Turn}
  {e : DecodeError}

/-- At its host's turn, an access that decodes to no register is refused. -/
theorem step_refuseAccess (hready : s.readyHeld = none) (hturns : s.turns = pid.turn :: ts)
    (hfree : (s.port pid).hold = none) (hreqs : (s.port pid).reqs = a :: rest)
    (hdec : decode s.cfg.lineW (.access a.width (descriptor pid.bit a.write a.off) a.data) =
      .error e) :
    step s = .next ((s.issued ts pid rest).refuseAccess pid a e) := by
  have hdec' : ({ s with turns := ts } : State).decodeAccess pid a = .error e := by
    rwa [State.decodeAccess_eq_decode]
  rw [step_of_turn hready hturns, stepTurn_host]
  simp [stepHost, State.nextAccess_issued hfree hreqs, hdec']

/-- While the block is faulted a refused access raises nothing (log 13). -/
theorem State.refuseAccess_of_faulted (hf : s.faulted = true) (pid : PortId) (a : Access)
    (e : DecodeError) :
    s.refuseAccess pid a e = s.complete pid (if a.write then none else some 0) :=
  if_pos hf

theorem step_refuses_faulted (hready : s.readyHeld = none) (hf : s.faulted = true)
    (hturns : s.turns = pid.turn :: ts) (hfree : (s.port pid).hold = none)
    (hreqs : (s.port pid).reqs = a :: rest)
    (hdec : decode s.cfg.lineW (.access a.width (descriptor pid.bit a.write a.off) a.data) =
      .error e) :
    step s = .next ((s.issued ts pid rest).complete pid (if a.write then none else some 0)) := by
  rw [step_refuseAccess hready hturns hfree hreqs hdec,
    State.refuseAccess_of_faulted (by simpa using hf)]

end Refused

/-- Settles O27. Every access is a status read or goes through the shared access operation, which looks
at the hold and at the latch before the access's own rule; a refused access looks at the latch too. -/
theorem faultedAndHeldPorts : Obligations.FaultedAndHeldPorts := by
  constructor
  · intro s i width A D henc
    obtain ⟨pid, isRead, hport, hwr, hform⟩ := accessAt_of_encode henc
    rw [hport, hwr]
    have held := hform.exec_of_held (s := s)
    have faulted := hform.exec_of_faulted (s := s)
    cases pid with
    | p =>
      refine ⟨fun hf hno => ⟨fun _ hfree => ?_, nofun⟩, fun _ => held, nofun⟩
      rw [AnswersP, faulted hfree hf hno]
      cases isRead <;> rfl
    | c =>
      refine ⟨fun hf hno => ⟨nofun, fun _ hfree => ?_⟩, nofun, fun _ => held⟩
      rw [AnswersC, faulted hfree hf hno]
      cases isRead <;> rfl
  · intro s a rest ts e hready hf
    exact ⟨step_refuses_faulted (pid := .p) hready hf, step_refuses_faulted (pid := .c) hready hf⟩

/-! ### The status registers -/

section Status

variable {s : State} {i : Instr} {v : Word}

theorem answersP_of_statusRead (hexec : exec i s = .next (s.statusRead .p v))
    (hfree : s.portP.hold = none) : AnswersP i s s (some v) := by
  rw [AnswersP, hexec, State.statusRead, if_neg (by simp [hfree])]
  rfl

theorem answersC_of_statusRead (hexec : exec i s = .next (s.statusRead .c v))
    (hfree : s.portC.hold = none) : AnswersC i s s (some v) := by
  rw [AnswersC, hexec, State.statusRead, if_neg (by simp [hfree])]
  rfl

end Status

/-- The bits of P_STATUS (R261), the lowest in front. -/
theorem State.pStatus_bit (s : State) (k : Nat) :
    s.pStatus.getLsbD k =
      [s.busy, s.p2c.isSome, s.c2p.isSome, s.sendReady, s.palLocked, s.faulted].getD k false := by
  have hbits : s.pStatus = ((((((0#26).concat s.faulted).concat s.palLocked).concat
    s.sendReady).concat s.c2p.isSome).concat s.p2c.isSome).concat s.busy := rfl
  rw [hbits]
  match k with
  | 0 | 1 | 2 | 3 | 4 | 5 | k + 6 => simp

/-- The bits of C_STATUS (R262), the lowest in front. -/
theorem State.cStatus_bit (s : State) (k : Nat) :
    s.cStatus.getLsbD k =
      [s.busy, s.p2c.isSome, s.c2p.isSome, s.linkBusy, s.streamOpen, s.faulted, s.initDone,
        s.dispatchEn, s.palLocked, s.bl].getD k false := by
  have hbits : s.cStatus = ((((((((((0#22).concat s.bl).concat s.palLocked).concat
    s.dispatchEn).concat s.initDone).concat s.faulted).concat s.streamOpen).concat
    s.linkBusy).concat s.c2p.isSome).concat s.p2c.isSome).concat s.busy := rfl
  rw [hbits]
  match k with
  | 0 | 1 | 2 | 3 | 4 | 5 | 6 | 7 | 8 | 9 | k + 10 => simp

/-- The word of P_FAULT and C_FAULT as a number (R267). -/
theorem FaultLatch.word_toNat (f : FaultLatch) :
    f.word.toNat =
      f.offset.toNat * 65536 + f.disp.toNat * 512 + f.port.toNat * 256 + f.code.toNat := by
  have h : f.word.toNat = ((((f.offset ++ 0#6) ++ BitVec.ofBool f.disp) ++ BitVec.ofBool f.port) ++
    f.code : BitVec (16 + 6 + 1 + 1 + 8)).toNat := rfl
  rw [h, append_toNat, append_toNat, append_toNat, append_toNat]
  simp
  omega

/-- The fields of P_FAULT and C_FAULT (R267). -/
theorem FaultLatch.word_fields (f : FaultLatch) :
    f.word.extractLsb' 0 8 = f.code ∧ f.word.getLsbD 8 = f.port ∧ f.word.getLsbD 9 = f.disp ∧
      f.word.extractLsb' 10 6 = 0 ∧ f.word.extractLsb' 16 16 = f.offset := by
  have hoff := f.offset.isLt
  have hcode := f.code.isLt
  have hport := Bool.toNat_le f.port
  have hdisp := Bool.toNat_le f.disp
  have hword := f.word_toNat
  refine ⟨?code, ?port, ?disp, ?zero, ?offset⟩
  case port =>
    rw [bit_eq, hword]
    cases f.port <;> simp <;> omega
  case disp =>
    rw [bit_eq, hword]
    cases f.disp <;> simp <;> omega
  all_goals
    apply BitVec.eq_of_toNat_eq
    rw [field_toNat, hword]
    simp
    omega

theorem State.faulted_eq_decide (s : State) : s.faulted = decide (s.fault.code ≠ 0) := by
  rw [decide_not]
  rfl

/-- Settles O7. A status read answers whatever the latch holds, and its word's bits are the state's. -/
theorem statusReadsShowTheirBits : Obligations.StatusReadsShowTheirBits := by
  refine ⟨fun s hfree => ?pStatus, fun s hfree => ?cStatus, fun s => ?fault⟩
  case pStatus =>
    refine ⟨s.pStatus, answersP_of_statusRead rfl hfree, ?_⟩
    simp only [State.pStatus_bit]
    exact ⟨rfl, rfl, rfl, rfl, rfl, s.faulted_eq_decide, fun k hk => List.getD_eq_default _ _ hk⟩
  case cStatus =>
    refine ⟨s.cStatus, answersC_of_statusRead rfl hfree, ?_⟩
    simp only [State.cStatus_bit]
    exact ⟨rfl, rfl, rfl, rfl, rfl, s.faulted_eq_decide, rfl, rfl, rfl, rfl,
      fun k hk => List.getD_eq_default _ _ hk⟩
  case fault =>
    exact ⟨s.fault.word, answersP_of_statusRead rfl, answersC_of_statusRead rfl, s.fault.word_fields⟩

/-! ### Ignored writes and zero reads -/

section Ignored

variable {s : State} {i : Instr} {isRead : Bool}

/-- An access whose rule does nothing is answered alike by a faulted and by a working block. -/
theorem State.access_of_keep {pid : PortId} (hfree : (s.port pid).hold = none) :
    s.access pid isRead i (fun s => .done s 0) =
      s.complete pid (if isRead then some 0 else none) := by
  cases hf : s.faulted with
  | true => exact State.access_of_faulted hfree hf
  | false => exact State.access_of_done hfree hf rfl

theorem answersP_of_keep (hexec : exec i s = .next (s.access .p isRead i fun s => .done s 0))
    (hfree : s.portP.hold = none) : AnswersP i s s (if isRead then some 0 else none) := by
  rw [AnswersP, hexec, State.access_of_keep (pid := .p) hfree]
  rfl

theorem answersC_of_keep (hexec : exec i s = .next (s.access .c isRead i fun s => .done s 0))
    (hfree : s.portC.hold = none) : AnswersC i s s (if isRead then some 0 else none) := by
  rw [AnswersC, hexec, State.access_of_keep (pid := .c) hfree]
  rfl

end Ignored

/-- Settles O8. Each access is the shared access operation over a rule that does nothing, on the link
registers behind the owner restriction. -/
theorem ignoredWritesAndZeroReads : Obligations.IgnoredWritesAndZeroReads := by
  refine ⟨fun s v hfree => ?portP, fun s v hfree => ?portC, fun s howned => ?link⟩
  case portP =>
    have ignored {i} (hexec : exec i s = .next (s.ignoredWrite .p i)) : AnswersP i s s none :=
      answersP_of_keep (isRead := false) hexec hfree
    exact ⟨ignored rfl, ignored rfl, ignored rfl, answersP_of_keep (isRead := true) rfl hfree⟩
  case portC =>
    have ignored {i} (hexec : exec i s = .next (s.ignoredWrite .c i)) : AnswersC i s s none :=
      answersC_of_keep (isRead := false) hexec hfree
    exact ⟨ignored rfl, ignored rfl, ignored rfl, answersC_of_keep (isRead := true) rfl hfree⟩
  case link =>
    have zero {i off} (hexec : exec i s = .next (s.linkZeroRead off i)) : AnswersC i s s (some 0) :=
      answersC_of_linkRead (f := fun _ => 0) hexec howned
    exact ⟨zero rfl, zero rfl, zero rfl, zero rfl, zero rfl, zero rfl, zero rfl, zero rfl, zero rfl,
      zero rfl, zero rfl⟩

end Sys2Proof.Machine
end

section
namespace Sys2Proof.Machine

/-! ## BUSY, control, palette and line buffer -/

/-! ### BUSY and control -/

section Control

variable {s : State} {v : Word}

theorem busyClear_eq (v : Word) (s : State) :
    busyClear v s = .done { s with busy := s.busy && !v.getLsbD 0 } 0 := by
  unfold busyClear boolOperand
  cases v.getLsbD 0 <;> simp

theorem ctrlWrite_of_zero (hv : v.getLsbD 0 = false) : ctrlWrite v s = .done s 0 := by
  rw [ctrlWrite, boolOperand, hv]
  rfl

theorem ctrlWrite_of_open (hv : v.getLsbD 0 = true) (hopen : s.streamOpen = true) :
    ctrlWrite v s = .trap ⟨.streamOpen, 0x0014⟩ := by
  rw [ctrlWrite, boolOperand, hv, hopen]
  rfl

theorem ctrlWrite_of_closed (hv : v.getLsbD 0 = true) (hclosed : s.streamOpen = false) :
    ctrlWrite v s = .done { s with
      dispatchEn := true
      phase := if s.phase = .off then .waitCmd else s.phase } 0 := by
  rw [ctrlWrite, boolOperand, hv, hclosed]
  rfl

/-- P_BUSY's write (R264). -/
theorem answersP_wPBusy (hready : s.ReadyP) (v : Word) :
    AnswersP (.wPBusy v) s { s with busy := s.busy || v.getLsbD 0 } none := by
  refine answersP_of_done (isRead := false) (v := 0) rfl hready ?_ rfl
  unfold boolOperand
  cases v.getLsbD 0 <;> simp

end Control

/-- Settles O10. Each write's rule looks at bit 0 alone, C_BUSY_CLR's behind the owner restriction. -/
theorem busyAndControlRegisters : Obligations.BusyAndControlRegisters := by
  constructor
  · intro s v hready
    rw [← zextBool_eq]
    exact ⟨answersP_of_done (isRead := true) rfl hready rfl rfl, answersP_wPBusy hready v⟩
  · intro s v hready
    rw [← zextBool_eq, ← zextBool_eq]
    exact ⟨answersC_of_done (isRead := true) rfl hready rfl rfl,
      fun howned => answersC_of_done (isRead := false) rfl hready
        ((ownerGuard_of_owned howned).trans (busyClear_eq v s)) rfl,
      fun hen => raisesC_of_trap (isRead := false) rfl hready (ownerGuard_of_dispatcher hen),
      answersC_of_done (isRead := true) rfl hready rfl rfl,
      fun hv => answersC_of_done (isRead := false) rfl hready (ctrlWrite_of_zero hv) rfl,
      fun hv hopen => raisesC_of_trap (isRead := false) rfl hready (ctrlWrite_of_open hv hopen),
      fun hv hclosed =>
        answersC_of_done (isRead := false) rfl hready (ctrlWrite_of_closed hv hclosed) rfl⟩

/-! ### Palette -/

/-- An access of P whose rule fails a check faults with that check's code and offset. -/
theorem raisesP_of_trap {i : Instr} {s : State} {body : State → Effect} {t : Trap} {isRead : Bool}
    (hexec : exec i s = .next (s.access .p isRead i body)) (hready : s.ReadyP)
    (hbody : body s = .trap t) :
    RaisesP i s t.code.byte t.off (if isRead then some 0 else none) := by
  obtain ⟨hfree, hf⟩ := hready
  rw [RaisesP, hexec, State.access_of_trap (pid := .p) hfree hf hbody]
  exact congrArg _ (State.raiseFault_complete_p hf t _)

theorem paletteOffset_eq (k : BitVec 4) : paletteOffset k = BitVec.ofNat 16 (0x100 + 4 * k.toNat) := by
  rw [← paletteOffset_toNat, BitVec.ofNat_toNat, BitVec.setWidth_eq]

theorem linebufOffset_eq (i : BitVec 10) :
    linebufOffset i = BitVec.ofNat 16 (0x1000 + 4 * i.toNat) := by
  rw [← linebufOffset_toNat, BitVec.ofNat_toNat, BitVec.setWidth_eq]

section Palette

variable {s : State} {k : BitVec 4}

theorem paletteWrite_of_open (hopen : s.palLocked = false) (v : Word) :
    paletteWrite k v s = .done { s with palette := s.palette.write k.toNat (lowHalf v) } 0 := by
  simp [paletteWrite, hopen]

theorem paletteWrite_of_locked (hlocked : s.palLocked = true) (v : Word) :
    paletteWrite k v s = .trap ⟨.paletteLocked, BitVec.ofNat 16 (0x100 + 4 * k.toNat)⟩ := by
  simp [paletteWrite, hlocked, paletteOffset_eq]

theorem paletteRead_of_written {c : Half} (hread : s.palette.read k.toNat = some c) :
    paletteRead k s = .done s (zextHalf c) := by
  simp [paletteRead, hread]

theorem paletteRead_of_unwritten (hread : s.palette.read k.toNat = none) :
    paletteRead k s = .trap ⟨.uninitRead, BitVec.ofNat 16 (0x100 + 4 * k.toNat)⟩ := by
  simp [paletteRead, hread, paletteOffset_eq]

end Palette

/-- What a store holds after a write of `v` at index `a`. -/
theorem Memory.read_write_ite {α : Type} (m : Memory α) (a : Nat) (v : α) (j : Nat) :
    (m.write a v).read j = if j = a then some v else m.read j := by
  rw [Memory.read_write]
  exact if_congr eq_comm rfl rfl

/-- Settles O12. Both ports' accesses run the same two rules. -/
theorem paletteAccesses : Obligations.PaletteAccesses := by
  intro s k v
  refine ⟨fun hready hopen => ?writeP, fun hready hopen => ?writeC, fun hready hlocked => ?lockedP,
    fun hready hlocked => ?lockedC, fun c hread => ⟨fun hready => ?readP, fun hready => ?readC⟩,
    fun hread => ⟨fun hready => ?unwrittenP, fun hready => ?unwrittenC⟩⟩
  case writeP =>
    exact ⟨_, answersP_of_done (isRead := false) rfl hready (paletteWrite_of_open hopen v) rfl,
      s.palette.read_write_ite _ _⟩
  case writeC =>
    exact ⟨_, answersC_of_done (isRead := false) rfl hready (paletteWrite_of_open hopen v) rfl,
      s.palette.read_write_ite _ _⟩
  case lockedP =>
    exact raisesP_of_trap (isRead := false) rfl hready (paletteWrite_of_locked hlocked v)
  case lockedC =>
    exact raisesC_of_trap (isRead := false) rfl hready (paletteWrite_of_locked hlocked v)
  case readP =>
    exact answersP_of_done (isRead := true) rfl hready (paletteRead_of_written hread) rfl
  case readC =>
    exact answersC_of_done (isRead := true) rfl hready (paletteRead_of_written hread) rfl
  case unwrittenP =>
    exact raisesP_of_trap (isRead := true) rfl hready (paletteRead_of_unwritten hread)
  case unwrittenC =>
    exact raisesC_of_trap (isRead := true) rfl hready (paletteRead_of_unwritten hread)

/-! ### Line buffer -/

section LineBuffer

variable {s : State} {i : BitVec 10}

theorem linebufIndexGuard_of_below (hi : i.toNat < s.cfg.lineW) (body : State → Effect) :
    linebufIndexGuard i body s = body s := if_neg (by omega)

theorem linebufRead_of_written {e : Byte} (hread : s.linebuf.read i.toNat = some e) :
    linebufRead i s = .done s (zextByte e) := by
  simp [linebufRead, hread]

theorem linebufRead_of_unwritten (hread : s.linebuf.read i.toNat = none) :
    linebufRead i s = .trap ⟨.uninitRead, BitVec.ofNat 16 (0x1000 + 4 * i.toNat)⟩ := by
  simp [linebufRead, hread, linebufOffset_eq]

theorem linebufWriteP_of_free (hi : i.toNat < s.cfg.lineW) (hfree : s.busy = false) (v : Word) :
    linebufWriteP i v s =
      .done { s with linebuf := s.linebuf.write i.toNat (v.extractLsb' 0 8) } 0 := by
  rw [linebufWriteP, linebufIndexGuard_of_below hi, lowByte_lowHalf]
  simp [hfree]

theorem linebufWriteP_of_busy (hi : i.toNat < s.cfg.lineW) (hbusy : s.busy = true) (v : Word) :
    linebufWriteP i v s = .trap ⟨.bufferRace, BitVec.ofNat 16 (0x1000 + 4 * i.toNat)⟩ := by
  rw [linebufWriteP, linebufIndexGuard_of_below hi, if_pos hbusy, linebufOffset_eq]

theorem linebufReadP_of_free (hi : i.toNat < s.cfg.lineW) (hfree : s.busy = false) :
    linebufReadP i s = linebufRead i s := by
  rw [linebufReadP, linebufIndexGuard_of_below hi]
  simp [hfree]

theorem linebufReadP_of_busy (hi : i.toNat < s.cfg.lineW) (hbusy : s.busy = true) :
    linebufReadP i s = .trap ⟨.bufferRace, BitVec.ofNat 16 (0x1000 + 4 * i.toNat)⟩ := by
  rw [linebufReadP, linebufIndexGuard_of_below hi, if_pos hbusy, linebufOffset_eq]

theorem linebufReadC_of_owned (hi : i.toNat < s.cfg.lineW) (howned : s.dispatchEn = false)
    (hbusy : s.busy = true) : linebufReadC i s = linebufRead i s := by
  rw [linebufReadC, linebufIndexGuard_of_below hi, ownerGuard_of_owned howned]
  simp [hbusy]

theorem linebufReadC_of_free (hi : i.toNat < s.cfg.lineW) (howned : s.dispatchEn = false)
    (hfree : s.busy = false) :
    linebufReadC i s = .trap ⟨.bufferNotOwned, BitVec.ofNat 16 (0x1000 + 4 * i.toNat)⟩ := by
  rw [linebufReadC, linebufIndexGuard_of_below hi, ownerGuard_of_owned howned]
  simp [hfree, linebufOffset_eq]

theorem linebufWriteC_of_owned (hi : i.toNat < s.cfg.lineW) (howned : s.dispatchEn = false) :
    linebufWriteC i s = .trap ⟨.bufferNotOwned, BitVec.ofNat 16 (0x1000 + 4 * i.toNat)⟩ := by
  rw [linebufWriteC, linebufIndexGuard_of_below hi, ownerGuard_of_owned howned, linebufOffset_eq]

/-- Behind its index check agent C's access to an element meets the owner restriction (R269). -/
theorem linebufGuards_of_dispatcher (hi : i.toNat < s.cfg.lineW) (hen : s.dispatchEn = true)
    (body : State → Effect) :
    linebufIndexGuard i (ownerGuard (linebufOffset i) body) s =
      .trap ⟨.ownerViolation, BitVec.ofNat 16 (0x1000 + 4 * i.toNat)⟩ := by
  rw [linebufIndexGuard_of_below hi, ownerGuard_of_dispatcher hen, linebufOffset_eq]

theorem raisesC_rCLinebuf (hready : s.ReadyC) (hi : i.toNat < s.cfg.lineW)
    (hen : s.dispatchEn = true) :
    RaisesC (.rCLinebuf i) s 0x03 (BitVec.ofNat 16 (0x1000 + 4 * i.toNat)) (some 0) :=
  raisesC_of_trap (isRead := true) rfl hready (linebufGuards_of_dispatcher hi hen _)

theorem raisesC_wCLinebuf (hready : s.ReadyC) (hi : i.toNat < s.cfg.lineW)
    (hen : s.dispatchEn = true) (v : Word) :
    RaisesC (.wCLinebuf i v) s 0x03 (BitVec.ofNat 16 (0x1000 + 4 * i.toNat)) none :=
  raisesC_of_trap (isRead := false) rfl hready (linebufGuards_of_dispatcher hi hen _)

end LineBuffer

/-- Settles O13. BUSY decides between the fault and the store. -/
theorem producerLineBufferAccesses : Obligations.ProducerLineBufferAccesses := by
  intro s i v hready hi
  refine ⟨fun hfree => ?write, fun hfree e hread => ?read, fun hfree hread => ?unwritten,
    fun hbusy => ⟨?busyWrite, ?busyRead⟩⟩
  case write =>
    exact ⟨_, answersP_of_done (isRead := false) rfl hready (linebufWriteP_of_free hi hfree v) rfl,
      s.linebuf.read_write_ite _ _⟩
  case read =>
    exact answersP_of_done (isRead := true) rfl hready
      ((linebufReadP_of_free hi hfree).trans (linebufRead_of_written hread)) rfl
  case unwritten =>
    exact raisesP_of_trap (isRead := true) rfl hready
      ((linebufReadP_of_free hi hfree).trans (linebufRead_of_unwritten hread))
  case busyWrite =>
    exact raisesP_of_trap (isRead := false) rfl hready (linebufWriteP_of_busy hi hbusy v)
  case busyRead =>
    exact raisesP_of_trap (isRead := true) rfl hready (linebufReadP_of_busy hi hbusy)

/-- Settles O14. The owner restriction stands before the look at BUSY. -/
theorem consumerLineBufferAccesses : Obligations.ConsumerLineBufferAccesses := by
  intro s i v hready hi
  refine ⟨fun hen => ⟨raisesC_rCLinebuf hready hi hen, raisesC_wCLinebuf hready hi hen v⟩,
    fun howned hbusy e hread => ?read, fun howned hbusy hread => ?unwritten,
    fun howned hfree => ?notOwned, fun howned => ?write⟩
  case read =>
    exact answersC_of_done (isRead := true) rfl hready
      ((linebufReadC_of_owned hi howned hbusy).trans (linebufRead_of_written hread)) rfl
  case unwritten =>
    exact raisesC_of_trap (isRead := true) rfl hready
      ((linebufReadC_of_owned hi howned hbusy).trans (linebufRead_of_unwritten hread))
  case notOwned =>
    exact raisesC_of_trap (isRead := true) rfl hready (linebufReadC_of_free hi howned hfree)
  case write =>
    exact raisesC_of_trap (isRead := false) rfl hready (linebufWriteC_of_owned hi howned)

/-! ### The owner restriction -/

/-- Settles O25. In each of the accesses the owner restriction is the first check of its rule, behind
only the element's index. -/
theorem ownerRestriction : Obligations.OwnerRestriction := by
  intro s v i hready hen hi
  have read {j off f} (hexec : exec j s = .next (s.linkRead off j f)) :
      RaisesC j s 0x03 off (some 0) := raisesC_linkRead hexec hready hen
  have write {j off body} (hexec : exec j s = .next (s.linkWrite off j body)) :
      RaisesC j s 0x03 off none := raisesC_linkWrite hexec hready hen
  exact ⟨raisesC_of_trap (isRead := true) rfl hready (ownerGuard_of_dispatcher hen), write rfl,
    read rfl, write rfl, read rfl, write rfl, read rfl, write rfl, read rfl, write rfl,
    read rfl, write rfl, read rfl, write rfl, read rfl, write rfl, read rfl, write rfl,
    read rfl, write rfl, read rfl, write rfl, read rfl, write rfl, read rfl, write rfl,
    read rfl, write rfl, read rfl, write rfl, read rfl, write rfl, read rfl, write rfl,
    raisesC_rCLinebuf hready hi hen, raisesC_wCLinebuf hready hi hen v⟩

end Sys2Proof.Machine
end

section
namespace Sys2Proof.Machine

/-! ## The command words -/

/-! ### The words and their operations (44_dispatcher.md R291) -/

/-- R103's sums are the named command words. -/
theorem drawLineWord_eq (row : Half) :
    BitVec.ofNat 32 (0x01000000 + row.toNat) = drawLineWord row := by
  rw [← drawLineWord_toNat, BitVec.ofNat_toNat, BitVec.setWidth_eq]

theorem setPixelWord_eq (c : Half) : BitVec.ofNat 32 (0x03000000 + c.toNat) = setPixelWord c := by
  rw [← setPixelWord_toNat, BitVec.ofNat_toNat, BitVec.setWidth_eq]

theorem setIdleWord_eq (invert idle : Bool) :
    BitVec.ofNat 32 (0x02000000 + 2 * invert.toNat + idle.toNat) = setIdleWord invert idle := by
  cases invert <;> cases idle <;> rfl

/-- A tag above a byte is the halfword above the operand (R103). -/
theorem highField_eq_iff {w : Word} {a b : Byte} :
    w.extractLsb' 16 16 = a ++ b ↔ w.extractLsb' 24 8 = a ∧ w.extractLsb' 16 8 = b := by
  have ha := a.isLt
  have hb := b.isLt
  simp only [← BitVec.toNat_inj, append_toNat, field_toNat]
  omega

/-- A tag above 22 zero bits is SET_IDLE's fixed field (R103). -/
theorem setIdleField_eq_iff {w : Word} :
    w.extractLsb' 2 30 = 0x00800000#30 ↔
      w.extractLsb' 24 8 = 0x02#8 ∧ w.extractLsb' 2 22 = 0#22 := by
  simp only [← BitVec.toNat_inj, field_toNat, BitVec.toNat_ofNat]
  omega

/-- Settles O32. The conditions of R291 are the fields of the named words of R103, and a word of none
of them is reserved. -/
theorem commandOperations : Obligations.CommandOperations := by
  intro cfg w
  have hdraw : w.extractLsb' 16 16 = 0x0100#16 ↔ _ := highField_eq_iff (a := 0x01) (b := 0)
  have hpixel : w.extractLsb' 16 16 = 0x0300#16 ↔ _ := highField_eq_iff (a := 0x03) (b := 0)
  refine ⟨fun hzero => ?nop, fun htag hfixed => ?drawLine, fun htag hfixed => ?setIdle,
    fun htag hfixed => ?setPixel, fun hzero hline hidle hcolor => ?reserved⟩
  case nop =>
    subst hzero
    exact commandOps_nop cfg
  case drawLine =>
    have hword : drawLineWord (w.extractLsb' 0 16) = w := append_operand (hdraw.2 ⟨htag, hfixed⟩)
    calc commandOps cfg w = commandOps cfg (drawLineWord (w.extractLsb' 0 16)) := by rw [hword]
      _ = _ := commandOps_drawLine ..
  case setIdle =>
    have hword := setIdleWord_of_fields (setIdleField_eq_iff.2 ⟨htag, hfixed⟩)
    rw [← zextBool_eq, ← zextBool_eq]
    calc commandOps cfg w
        = commandOps cfg (setIdleWord (w.getLsbD 1) (w.getLsbD 0)) := by rw [hword]
      _ = _ := commandOps_setIdle ..
  case setPixel =>
    have hword : setPixelWord (w.extractLsb' 0 16) = w := append_operand (hpixel.2 ⟨htag, hfixed⟩)
    calc commandOps cfg w = commandOps cfg (setPixelWord (w.extractLsb' 0 16)) := by rw [hword]
      _ = _ := commandOps_setPixel ..
  case reserved =>
    have hnamed : isNamedCommand w = false := by
      simp only [isNamedCommand, hdraw, hpixel, setIdleField_eq_iff, Bool.or_eq_false_iff,
        decide_eq_false_iff_not]
      exact ⟨⟨⟨hzero, hline⟩, hidle⟩, hcolor⟩
    have hdec := decodeCommand_of_not_named hnamed
    exact ⟨hdec, by rw [commandOps, hdec]; rfl⟩

/-! ### The pop (R290) -/

section Pop

variable {s : State} {w : Word}

theorem State.dispatcherReady_of_full (hf : s.faulted = false) (hp : s.phase = .waitCmd)
    (hfull : s.p2c = some w) : s.dispatcherReady = true := by
  simp [State.dispatcherReady, hf, hp, hfull]

/-- D takes a word that has operations (R293 to R295). -/
theorem exec_takes {i : Instr} {ops : List (Half × Word)}
    (hexec : exec i s = .next (s.takeCommand w ops)) (hready : s.dispatcherReady = true)
    (hops : ops ≠ []) :
    exec i s = .next { s with p2c := none, phase := .exec w 0 false } := by
  rw [hexec, State.takeCommand, if_pos hready, execPhase_eq, if_pos (List.length_pos_iff.2 hops)]

/-- A command word's meaning is its pop: into its operations, or into BAD_COMMAND (R292 to R296). -/
theorem exec_command_cases (s : State) (w : Word) :
    exec (decodeCommand w) s = .next (s.takeCommand w (commandOps s.cfg w)) ∨
    commandOps s.cfg w = [] ∧ exec (decodeCommand w) s = .next
      (if s.dispatcherReady then
        ({ s with p2c := none } : State).raiseFault ⟨.badCommand, 0x0008⟩ true true
      else s) := by
  have takes {v ops} (hword : v = w) (hops : commandOps s.cfg v = ops) :
      Host.Outcome.next (φ := Fault) (ρ := Refusal) (s.takeCommand v ops) =
        .next (s.takeCommand w (commandOps s.cfg w)) := by
    subst hword hops
    rfl
  by_cases hnop : w = 0x00000000#32
  · rw [hnop]
    exact .inl rfl
  by_cases hdraw : w.extractLsb' 16 16 = 0x0100#16
  · rw [decodeCommand, if_neg hnop, if_pos hdraw]
    exact .inl (takes (append_operand hdraw) (commandOps_drawLine ..))
  by_cases hidle : w.extractLsb' 2 30 = 0x00800000#30
  · rw [decodeCommand, if_neg hnop, if_neg hdraw, if_pos hidle]
    exact .inl (takes (setIdleWord_of_fields hidle) (commandOps_setIdle ..))
  by_cases hpixel : w.extractLsb' 16 16 = 0x0300#16
  · rw [decodeCommand, if_neg hnop, if_neg hdraw, if_neg hidle, if_pos hpixel]
    exact .inl (takes (append_operand hpixel) (commandOps_setPixel ..))
  have hdec : decodeCommand w = .reservedCommand w :=
    decodeCommand_of_not_named (by simp [isNamedCommand, hnop, hdraw, hidle, hpixel])
  rw [commandOps, hdec]
  exact .inr ⟨rfl, rfl⟩

/-- The pop of a word that has operations. -/
theorem exec_command_of_ops (hready : s.dispatcherReady = true) (hops : commandOps s.cfg w ≠ []) :
    exec (decodeCommand w) s = .next { s with p2c := none, phase := .exec w 0 false } := by
  rcases exec_command_cases s w with hexec | ⟨hnone, -⟩
  · exact exec_takes hexec hready hops
  · exact absurd hnone hops

end Pop

/-- Settles O31. Each word is taken by a dispatcher that is ready; only a named word other than NOP
has operations. -/
theorem commandWordsArePopped : Obligations.CommandWordsArePopped := by
  intro s hf hp
  refine ⟨fun hfull => ?nop, fun row hfull => ?drawLine, fun invert idle hfull => ?setIdle,
    fun color hfull => ?setPixel, fun w hfull _ => ?reserved⟩
  all_goals have hready := State.dispatcherReady_of_full hf hp hfull
  case nop =>
    show Host.Outcome.next (s.takeCommand _ _) = _
    simp [State.takeCommand, hready, execPhase, hp, nopOps]
  case drawLine => exact drawLineWord_eq row ▸ exec_takes rfl hready (by simp [drawLineOps])
  case setIdle => exact setIdleWord_eq invert idle ▸ exec_takes rfl hready (by simp [setIdleOps])
  case setPixel => exact setPixelWord_eq color ▸ exec_takes rfl hready (by simp [setPixelOps])
  case reserved =>
    show Host.Outcome.next (ite _ _ _) = _
    rw [if_pos hready]
    have hf' : ({ s with p2c := none } : State).faulted = false := hf
    simp [State.raiseFault, hf', FaultCode.byte]

end Sys2Proof.Machine
end

section
namespace Sys2Proof.Machine

/-! ## The stream of a running dispatcher -/

/-! ### What opens and closes the stream -/

/-- D is between its C_STREAM_BEGIN and its C_STREAM_END (44_dispatcher.md R295). -/
def Phase.InStream : Phase → Prop
  | .exec w k issued =>
    commandTag w = 0x03#8 ∧ ((k = 1 ∧ issued = true) ∨ k = 2 ∨ (k = 3 ∧ issued = false))
  | _ => False

/-- The stream is open exactly while D is in it. -/
def State.StreamMatches (s : State) : Prop := s.streamOpen = true ↔ s.phase.InStream

theorem State.StreamMatches.iff {s : State} (h : s.StreamMatches) :
    s.streamOpen = true ↔ s.phase.InStream := h

theorem Phase.inStream_iff (p : Phase) :
    p.InStream ↔ ∃ w k issued, p = .exec w k issued ∧ commandTag w = 0x03#8 ∧
      ((k = 1 ∧ issued = true) ∨ k = 2 ∨ (k = 3 ∧ issued = false)) := by
  constructor
  · intro h
    cases p with
    | exec w k issued => exact ⟨w, k, issued, rfl, h⟩
    | off | waitCmd => exact h.elim
  · rintro ⟨w, k, issued, rfl, h⟩
    exact h

theorem State.streamPaired_iff (s : State) :
    s.StreamPaired ↔ (s.faulted = false → s.dispatchEn = true → s.StreamMatches) := by
  unfold State.StreamPaired State.StreamMatches
  rw [Phase.inStream_iff]

/-- A faulted block pairs nothing. -/
theorem State.streamPaired_of_faulted {s : State} (hf : s.faulted = true) : s.StreamPaired := by
  simp [hf]

theorem State.StreamMatches.paired {s : State} (h : s.StreamMatches) : s.StreamPaired :=
  s.streamPaired_iff.2 fun _ _ => h

/-- `t` has the stream and the phase of `s`. -/
structure State.SameStream (s t : State) : Prop where
  streamOpen : t.streamOpen = s.streamOpen
  phase : t.phase = s.phase

theorem State.SameStream.refl (s : State) : s.SameStream s := ⟨rfl, rfl⟩

theorem State.SameStream.matches {s t : State} (hsame : s.SameStream t) (h : s.StreamMatches) :
    t.StreamMatches := by
  unfold State.StreamMatches
  rwa [hsame.streamOpen, hsame.phase]

/-! ### Accesses -/

section Rules

variable {s : State} {P : State → Prop}

/-- A check that fails leaves no state. -/
theorem Effect.leaves_of_check {c : Prop} [Decidable c] {t : Trap} {e : Effect}
    (h : ¬ c → e.Leaves P) : (if c then Effect.trap t else e).Leaves P := by
  split
  · trivial
  · exact h ‹_›

theorem paletteWrite_sameStream (k : BitVec 4) (v : Word) :
    (paletteWrite k v s).Leaves s.SameStream := Effect.leaves_of_check fun _ => ⟨rfl, rfl⟩

theorem paletteRead_sameStream (k : BitVec 4) : (paletteRead k s).Leaves s.SameStream := by
  unfold paletteRead
  split
  · trivial
  · exact .refl s

theorem linebufWriteP_sameStream (i : BitVec 10) (v : Word) :
    (linebufWriteP i v s).Leaves s.SameStream :=
  linebufIndexGuard_leaves (Effect.leaves_of_check fun _ => ⟨rfl, rfl⟩)

theorem linebufReadP_sameStream (i : BitVec 10) : (linebufReadP i s).Leaves s.SameStream := by
  refine linebufIndexGuard_leaves (Effect.leaves_of_check fun _ => ?_)
  unfold linebufRead
  split
  · trivial
  · exact .refl s

theorem pushP2C_sameStream (v : Word) : (pushP2C v s).Leaves s.SameStream := by
  unfold pushP2C
  split
  · exact ⟨rfl, rfl⟩
  · trivial

theorem pushC2P_sameStream (v : Word) : (pushC2P v s).Leaves s.SameStream := by
  unfold pushC2P
  split
  · exact ⟨rfl, rfl⟩
  · trivial

theorem popC2P_sameStream : (popC2P s).Leaves s.SameStream := by
  unfold popC2P
  split
  · exact ⟨rfl, rfl⟩
  · trivial

/-- A dispatcher that has left OFF is not started again (R268). -/
theorem ctrlWrite_sameStream (hp : s.phase ≠ .off) (v : Word) :
    (ctrlWrite v s).Leaves s.SameStream := by
  unfold ctrlWrite
  split
  · exact Effect.leaves_of_check fun _ => ⟨rfl, rfl⟩
  · exact .refl s

end Rules

section Accesses

variable {s t : State} {i : Instr}

/-- What a host's turn leaves of the stream and the phase: both, or a faulted block. -/
def State.StreamKept (s t : State) : Prop := t.faulted = true ∨ s.SameStream t

theorem State.StreamKept.paired (hkept : s.StreamKept t) (h : s.StreamMatches) :
    t.StreamPaired := by
  rcases hkept with hf | hsame
  · exact State.streamPaired_of_faulted hf
  · exact (hsame.matches h).paired

/-- An access keeps the stream and the phase if its rule does. -/
theorem access_streamKept {pid : PortId} {isRead : Bool} {body : State → Effect}
    (hb : (body s).Leaves s.SameStream) : s.StreamKept (s.access pid isRead i body) := by
  rcases State.access_cases s pid isRead i body with
    ⟨-, e⟩ | ⟨-, -, e⟩ | ⟨-, -, ⟨s', v, hs, e⟩ | ⟨hs, e⟩ | ⟨s', hs, e⟩ | ⟨s', q, r, hs, e⟩ |
      ⟨t, hs, e⟩⟩ <;> rw [e]
  case inr.inr.inr.inr.inr.inr => exact .inl (by simp)
  all_goals right
  · exact .refl s
  · exact ⟨by simp, by simp⟩
  · rw [hs] at hb
    exact ⟨by simpa using hb.streamOpen, by simpa using hb.phase⟩
  · exact ⟨by simp, by simp⟩
  · rw [hs] at hb
    exact ⟨by simpa using hb.streamOpen, by simpa using hb.phase⟩
  · rw [hs] at hb
    exact ⟨by simpa using hb.streamOpen, by simpa using hb.phase⟩

theorem statusRead_streamKept (pid : PortId) (v : Word) : s.StreamKept (s.statusRead pid v) := by
  unfold State.statusRead
  split
  · exact .inr (.refl s)
  · exact .inr ⟨by simp, by simp⟩

theorem refuseAccess_streamKept (pid : PortId) (a : Access) (e : DecodeError) :
    s.StreamKept (s.refuseAccess pid a e) := by
  unfold State.refuseAccess
  split
  · exact .inr ⟨by simp, by simp⟩
  · exact .inl (by simp)

/-- While the dispatcher is enabled no access opens or closes the stream: agent C's would, and the
owner restriction faults them (43_busy_status.md R269). -/
theorem execAccess_streamKept (hen : s.dispatchEn = true) (hp : s.phase ≠ .off) {width : Nat}
    {A : BitVec 18} {D : Word} (henc : encode i = .access width A D) (he : exec i s = .next t) :
    s.StreamKept t := by
  cases i
  case rPStatus | rPFault | rCStatus | rCFault => cases he; exact statusRead_streamKept _ _
  case wPStatus | wPMboxRx | wPFault | wCStatus | wCMboxRx | wCFault | rPMboxTx | rCMboxTx |
      rPBusy | rCBusyClr | rCCtrl | rCBacklight => cases he; exact access_streamKept (.refl s)
  case wPBusy v =>
    cases he
    refine access_streamKept ?_
    show s.SameStream _
    split <;> exact ⟨rfl, rfl⟩
  case wPMboxTx v => cases he; exact access_streamKept (pushP2C_sameStream v)
  case rPMboxRx => cases he; exact access_streamKept popC2P_sameStream
  case wCMboxTx v => cases he; exact access_streamKept (pushC2P_sameStream v)
  case wCCtrl v => cases he; exact access_streamKept (ctrlWrite_sameStream hp v)
  case wCBacklight v => cases he; exact access_streamKept (body := linkBacklight v) ⟨rfl, rfl⟩
  case rPPalette k | rCPalette k => cases he; exact access_streamKept (paletteRead_sameStream k)
  case wPPalette k v | wCPalette k v =>
    cases he
    exact access_streamKept (paletteWrite_sameStream k v)
  case rPLinebuf i => cases he; exact access_streamKept (linebufReadP_sameStream i)
  case wPLinebuf i v => cases he; exact access_streamKept (linebufWriteP_sameStream i v)
  case rCLinebuf | wCLinebuf =>
    cases he
    exact access_streamKept (linebufIndexGuard_leaves (ownerGuard_leaves hen))
  case wCBusyClr | rCMboxRx | rCInit | wCInit | rCWinCol | wCWinCol | rCWinRow | wCWinRow |
      rCWinApply | wCWinApply | rCSetAddress | wCSetAddress | rCStreamBegin | wCStreamBegin |
      rCPixel | wCPixel | rCStreamEnd | wCStreamEnd | rCFillColor | wCFillColor | rCFillXY | wCFillXY | rCFillWH |
      wCFillWH | rCFillGo | wCFillGo | rCInvert | wCInvert | rCPower | wCPower | rCIdle | wCIdle |
      rCDrawLine | wCDrawLine =>
    cases he
    exact access_streamKept (ownerGuard_leaves hen)
  all_goals cases henc

/-- A held access is an access of its own port. -/
theorem State.HoldsSound.encode_held (h : s.HoldsSound) {pid : PortId}
    (hready : s.readyHeld = some (pid, i)) : ∃ width A D, encode i = .access width A D := by
  obtain ⟨-, hheld⟩ := State.readyHeld_held hready
  obtain ⟨hholdP, hholdC⟩ := h
  cases pid with
  | p =>
    rcases hheld with e | e <;> rcases hholdP _ e with e' | ⟨v, e'⟩ <;> cases e' <;>
      exact ⟨_, _, _, rfl⟩
  | c =>
    rcases hheld with e | e <;> rcases hholdC _ e with e' | ⟨v, e'⟩ | e' <;> cases e' <;>
      exact ⟨_, _, _, rfl⟩

/-- A held access that is ready. -/
theorem execHeld_streamKept (hen : s.dispatchEn = true) (hp : s.phase ≠ .off)
    (hholds : s.HoldsSound) {pid : PortId} (hready : s.readyHeld = some (pid, i))
    (hs : exec i (s.release pid) = .next t) : s.StreamKept t := by
  obtain ⟨_, _, _, henc⟩ := hholds.encode_held hready
  have hkept := execAccess_streamKept (s := s.release pid) (by simpa using hen) (by simpa using hp)
    henc hs
  exact hkept.imp_right fun hsame =>
    ⟨by simpa using hsame.streamOpen, by simpa using hsame.phase⟩

/-- The turn of a host. -/
theorem stepHost_streamKept (hen : s.dispatchEn = true) (hp : s.phase ≠ .off) (pid : PortId)
    (hs : stepHost pid s = .next t) : s.StreamKept t := by
  rcases stepHost_cases pid s with ⟨-, e⟩ | ⟨a, s', hn, hcases⟩
  · rw [e] at hs
    cases hs
    exact .inr (.refl s)
  · obtain ⟨-, rest, rfl⟩ := State.nextAccess_eq_some hn
    have issued (hkept : (s.setPort pid { s.port pid with reqs := rest }).StreamKept t) :
        s.StreamKept t :=
      hkept.imp_right fun hsame => ⟨by simpa using hsame.streamOpen, by simpa using hsame.phase⟩
    rcases hcases with ⟨i, hdec, e⟩ | ⟨e', -, e⟩ <;> rw [e] at hs
    · exact issued (execAccess_streamKept (by simpa using hen) (by simpa using hp)
        (decodeOffset_eq_ok hdec).1 hs)
    · cases hs
      exact issued (refuseAccess_streamKept pid a e')

end Accesses

/-! ### The dispatcher's operations -/

/-- What an operation at this offset makes of STREAM_OPEN (40_panellink.md R158, R160). -/
def streamAfter (off : Half) (isOpen : Bool) : Bool :=
  if off = 0x0054 then true else if off = 0x005C then false else isOpen

/-- `t` is `s` after an operation of D's at offset `off`, as far as D's stream goes. -/
structure State.StreamStep (s : State) (off : Half) (t : State) : Prop where
  streamOpen : t.streamOpen = streamAfter off s.streamOpen
  phase : t.phase = s.phase
  cfg : t.cfg = s.cfg

/-- An operation that writes none of it, and is neither the begin nor the end. -/
theorem State.StreamStep.of_same {s t : State} {off : Half} (hbegin : off ≠ 0x0054)
    (hend : off ≠ 0x005C) (hopen : t.streamOpen = s.streamOpen) (hphase : t.phase = s.phase)
    (hcfg : t.cfg = s.cfg) : s.StreamStep off t :=
  ⟨by rw [hopen, streamAfter, if_neg hbegin, if_neg hend], hphase, hcfg⟩

/-- Of D's operations only the begin opens the stream and only the end closes it; the phase is
written at their issue and completion alone (44_dispatcher.md R290). -/
theorem dispatcherOp_streamStep (off : Half) (v : Word) (s : State) :
    (dispatcherOp off v s).Leaves (s.StreamStep off) := by
  have offset {n : Half} (h : off.toNat = n.toNat) : off = n := BitVec.eq_of_toNat_eq h
  unfold dispatcherOp
  split
  case h_1 h =>
    obtain rfl := offset (n := 0x0004) h
    rw [busyClear_eq]
    exact ⟨rfl, rfl, rfl⟩
  case h_2 h =>
    obtain rfl := offset (n := 0x0050) h
    refine streamGuard_leaves ?_
    split
    · trivial
    · exact ⟨rfl, rfl, rfl⟩
  case h_3 h =>
    obtain rfl := offset (n := 0x0054) h
    exact streamGuard_leaves ⟨rfl, rfl, rfl⟩
  case h_4 h =>
    obtain rfl := offset (n := 0x0058) h
    unfold linkPixel
    split
    · exact ⟨rfl, rfl, rfl⟩
    · trivial
  case h_5 h =>
    obtain rfl := offset (n := 0x005C) h
    unfold linkStreamEnd
    split
    · exact ⟨rfl, rfl, rfl⟩
    · trivial
  case h_6 h =>
    obtain rfl := offset (n := 0x0070) h
    exact streamGuard_leaves ⟨rfl, rfl, rfl⟩
  case h_7 h =>
    obtain rfl := offset (n := 0x007C) h
    exact streamGuard_leaves ⟨rfl, rfl, rfl⟩
  case h_8 h =>
    obtain rfl := offset (n := 0x0080) h
    refine streamGuard_leaves (Effect.leaves_of_check fun _ => Effect.leaves_of_check fun _ => ?_)
    split
    · trivial
    · exact ⟨rfl, rfl, rfl⟩
  case h_9 hbegin _ hend _ _ _ =>
    exact .of_same (by rintro rfl; exact hbegin rfl) (by rintro rfl; exact hend rfl) rfl rfl rfl

section Dispatcher

variable {s t : State} {w : Word} {k : Nat}

/-- The operations of a SET_PIXEL are the window, the begin, the pixel and the end (R295); no other
word begins or ends a stream. -/
theorem setPixel_operations {cfg : Params} {off : Half} {v : Word}
    (hop : (commandOps cfg w)[k]? = some (off, v)) :
    (commandTag w = 0x03#8 ∧ (commandOps cfg w).length = 4 ∧
      (k = 0 ∧ off = 0x0050 ∨ k = 1 ∧ off = 0x0054 ∨ k = 2 ∧ off = 0x0058 ∨
        k = 3 ∧ off = 0x005C)) ∨
    (commandTag w ≠ 0x03#8 ∧ off ≠ 0x0054 ∧ off ≠ 0x005C) := by
  rcases commandOps_cases cfg w with e | ⟨row, rfl, e⟩ | ⟨invert, idle, rfl, e⟩ | ⟨c, rfl, e⟩ <;>
    rw [e] at hop ⊢
  case inl => simp at hop
  case inr.inl =>
    rw [commandTag_drawLineWord]
    have hmem := List.mem_of_getElem? hop
    simp only [drawLineOps, List.mem_cons, Prod.mk.injEq, List.not_mem_nil, or_false] at hmem
    rcases hmem with ⟨rfl, -⟩ | ⟨rfl, -⟩ <;> exact .inr (by decide)
  case inr.inr.inl =>
    rw [commandTag_setIdleWord]
    have hmem := List.mem_of_getElem? hop
    simp only [setIdleOps, List.mem_cons, Prod.mk.injEq, List.not_mem_nil, or_false] at hmem
    rcases hmem with ⟨rfl, -⟩ | ⟨rfl, -⟩ <;> exact .inr (by decide)
  case inr.inr.inr =>
    refine .inl ⟨commandTag_setPixelWord c, rfl, ?_⟩
    match k with
    | 0 | 1 | 2 | 3 => cases hop; simp
    | k + 4 => simp [setPixelOps] at hop

/-- D's phase after its operation `k` is complete is in the stream exactly if it was with the
operation outstanding. -/
theorem execPhase_inStream {cfg : Params} {off : Half} {v : Word}
    (hop : (commandOps cfg w)[k]? = some (off, v)) :
    (execPhase w (commandOps cfg w).length (k + 1)).InStream ↔ (Phase.exec w k true).InStream := by
  rw [execPhase_eq]
  rcases setPixel_operations hop with ⟨-, hlen, hk⟩ | ⟨htag, -⟩
  · rw [hlen]
    rcases hk with ⟨rfl, -⟩ | ⟨rfl, -⟩ | ⟨rfl, -⟩ | ⟨rfl, -⟩ <;> simp [Phase.InStream]
  · split <;> simp [Phase.InStream, htag]

/-- The operation of D's that is issued opens the stream if D enters it, and closes it if D leaves
it. -/
theorem streamAfter_issued {cfg : Params} {off : Half} {v : Word}
    (hop : (commandOps cfg w)[k]? = some (off, v)) {isOpen : Bool}
    (h : isOpen = true ↔ (Phase.exec w k false).InStream) :
    streamAfter off isOpen = true ↔ (Phase.exec w k true).InStream := by
  rcases setPixel_operations hop with ⟨htag, -, hk⟩ | ⟨htag, hbegin, hend⟩
  · rcases hk with ⟨rfl, rfl⟩ | ⟨rfl, rfl⟩ | ⟨rfl, rfl⟩ | ⟨rfl, rfl⟩
    · simpa [streamAfter, Phase.InStream] using h
    · simp [streamAfter, Phase.InStream, htag]
    · simpa [streamAfter, Phase.InStream, htag] using h
    · simp [streamAfter, Phase.InStream]
  · rw [streamAfter, if_neg hbegin, if_neg hend, h]
    simp [Phase.InStream, htag]

/-- D's pop enters no stream, and leaves none. -/
theorem State.StreamMatches.takeCommand (h : s.StreamMatches) (w : Word)
    (ops : List (Half × Word)) :
    (s.takeCommand w ops).StreamMatches := by
  unfold State.takeCommand
  split
  case isTrue hready =>
    have hclosed : ¬ s.streamOpen = true := by
      rw [h.iff, State.phase_of_dispatcherReady hready]
      exact id
    refine iff_of_false hclosed ?_
    show ¬ (execPhase w ops.length 0).InStream
    rw [execPhase_eq]
    split <;> simp [Phase.InStream]
  case isFalse => exact h

/-- D issues an operation. -/
theorem State.StreamMatches.dispatcherIssue (h : s.StreamMatches) (hp : s.phase = .exec w k false)
    {off : Half} {v : Word} (hop : (commandOps s.cfg w)[k]? = some (off, v)) :
    (s.dispatcherIssue w k off v).StreamPaired := by
  have hrule := dispatcherOp_streamStep off v s
  have hissued {s' : State} (hstep : s.StreamStep off s') :
      s'.streamOpen = true ↔ (Phase.exec w k true).InStream := by
    rw [hstep.streamOpen]
    exact streamAfter_issued hop (by rw [h.iff, hp])
  have hdone {s' : State} (hstep : s.StreamStep off s') : s'.dispatcherDone.StreamPaired := by
    refine State.StreamMatches.paired ?_
    have hphase : s'.dispatcherDone.phase = execPhase w (commandOps s.cfg w).length (k + 1) := by
      simp [State.dispatcherDone, hstep.phase, hp, hstep.cfg]
    rw [State.StreamMatches, hphase, execPhase_inStream hop, State.dispatcherDone_streamOpen]
    exact hissued hstep
  unfold State.dispatcherIssue
  cases heff : dispatcherOp off v s with
  | done s' _ => rw [heff] at hrule; exact hdone hrule
  | hold => exact h.paired
  | start s' q =>
    rw [heff] at hrule
    cases q with
    | nil => exact hdone hrule
    | cons q r =>
      have hissued : s'.streamOpen = true ↔ _ := hissued hrule
      exact State.StreamMatches.paired hissued
  | trap tr => exact State.streamPaired_of_faulted (by simp)

/-- The turn of the dispatcher. -/
theorem State.StreamMatches.stepDispatcher (h : s.StreamMatches) (hphase : s.PhaseSound)
    (hs : Machine.stepDispatcher s = .next t) : t.StreamPaired := by
  rcases stepDispatcher_cases s with e | ⟨-, -, w, -, e⟩ | ⟨-, w, k, issued, hp, e⟩ <;> rw [e] at hs
  · cases hs
    exact h.paired
  · rcases exec_command_cases s w with e | ⟨-, e⟩ <;> cases e.symm.trans hs
    · exact (h.takeCommand w _).paired
    · split
      · exact State.streamPaired_of_faulted (by simp)
      · exact h.paired
  · cases hs
    cases issued with
    | true => exact h.paired
    | false =>
      have ⟨_, hops⟩ := hphase
      obtain ⟨⟨off, v⟩, hop, -⟩ := hops w k false hp
      rw [dispatcherExec_issues hop]
      exact h.dispatcherIssue hp hop

/-- E completes an operation of D's only if it was outstanding. -/
theorem State.PhaseSound.perform_inStream (h : s.PhaseSound) {q : QItem}
    (hout : q.ends = some .disp → 0 < s.phase.outstanding) :
    (s.perform q).phase.InStream ↔ s.phase.InStream := by
  by_cases hends : q.ends = some .disp
  · obtain ⟨w, k, hp⟩ := Phase.exec_of_outstanding (hout hends)
    obtain ⟨-, hops⟩ := h
    obtain ⟨⟨off, v⟩, hop, -⟩ := hops w k true hp
    rw [State.perform_phase_of_disp hends hp, hp]
    exact execPhase_inStream hop
  · rw [State.perform_phase_of_ne hends]

/-- The turn of the engine. -/
theorem State.StreamMatches.engineTurn (h : s.StreamMatches) (hphase : s.PhaseSound)
    (hengine : s.EngineSound) (hf : s.faulted = false) (hready : s.readyHeld = none)
    {ts : List Turn} (hturns : s.turns = .e :: ts) (hs : step s = .next t) : t.StreamMatches := by
  cases hqueue : s.opQueue with
  | nil =>
    have hidle : stepEngine { s with turns := ts } = .next { s with turns := ts } := by
      simp [stepEngine, State.nextItem, hqueue]
    rw [step_of_turn hready hturns, stepTurn, hidle] at hs
    cases hs
    exact h
  | cons q rest =>
    have hkept := State.PhaseSound.perform_inStream (s := { s with turns := ts, opQueue := rest })
      hphase (hengine.outstanding_of_head hf hqueue)
    rw [step_performs hready hf hturns hqueue] at hs
    cases hs
    have hopen : (s.performed ts q rest).streamOpen = s.streamOpen := by simp [State.performed]
    rw [State.StreamMatches, hopen]
    exact h.trans hkept.symm

end Dispatcher

/-! ### A step -/

/-- Only a block reset clears the latch (60_exceptions.md R317). -/
theorem faulted_streamPaired_rule : StepRule (·.faulted = true) State.StreamPaired where
  turn _ _ h := h
  release _ _ _ _ h := by simpa using h
  issue _ _ _ _ h := by simpa using h
  perform _ _ _ hf _ h := by simp [hf] at h
  act _ _ h hact := State.streamPaired_of_faulted (hact.faulted h)

/-- Settles O58. A faulted block pairs nothing; else the owner restriction keeps the hosts from the
stream, D's begin and end move it with the phase, and the reset disables the dispatcher. -/
theorem stepKeepsStreamPaired : Obligations.StepKeepsStreamPaired := by
  intro s t hinv hpaired hen hs
  have hreset (u : State) : u.blockReset.StreamPaired := fun _ hd => by simp at hd
  cases hf : s.faulted with
  | true => exact faulted_streamPaired_rule.ensures hf hs fun _ _ => hreset _
  | false =>
    have h : s.StreamMatches := s.streamPaired_iff.1 hpaired hf hen
    have hp := hinv.phase.ne_off hen
    rcases step_cases s with ⟨pid, i, hready, e⟩ | ⟨-, -, e⟩ | ⟨turn, ts, hready, hturns, e⟩
    · exact (execHeld_streamKept hen hp hinv.holds hready (e.symm.trans hs)).paired h
    · cases e.symm.trans hs
      exact hpaired
    · cases turn with
      | p =>
        have hkept := stepHost_streamKept (s := { s with turns := ts }) hen hp .p (e.symm.trans hs)
        exact hkept.paired h
      | c =>
        have hkept := stepHost_streamKept (s := { s with turns := ts }) hen hp .c (e.symm.trans hs)
        exact hkept.paired h
      | d =>
        exact State.StreamMatches.stepDispatcher (s := { s with turns := ts }) h hinv.phase
          (e.symm.trans hs)
      | e => exact (h.engineTurn hinv.phase hinv.engine hf hready hturns hs).paired
      | reset =>
        cases e.symm.trans hs
        exact hreset _

end Sys2Proof.Machine
end

section
namespace Sys2Proof.Machine

/-! ## A step that raises a fault -/

/-- `t` is `s` as a fault leaves it: besides the latch, the op queue and the ports it changes at most
P2C, and that only as the pop of a reserved word (60_exceptions.md R314, 44_dispatcher.md R296). -/
structure State.FaultsTo (s t : State) : Prop where
  state : t = { s with
    fault := t.fault
    opQueue := []
    portP := t.portP
    portC := t.portC
    turns := t.turns
    p2c := t.p2c }
  freeP : t.portP.hold = none
  freeC : t.portC.hold = none
  pop : t.p2c = s.p2c ∨
    t.p2c = none ∧ t.fault = { code := 0x0D, port := true, disp := true, offset := 0x0008 }

section Faults

variable {s x t : State}

theorem State.faultsTo_raiseFault (s : State) (tr : Trap) (port disp : Bool) :
    s.FaultsTo (s.raiseFault tr port disp) := ⟨rfl, by simp, by simp, .inl rfl⟩

/-- The completion of the access that faults changes its port alone. -/
theorem State.FaultsTo.complete (h : s.FaultsTo t) (pid : PortId) (ans : Option Word) :
    s.FaultsTo (t.complete pid ans) := by
  obtain ⟨hstate, hp, hc, hpop⟩ := h
  cases pid with
  | p => exact ⟨by rw [hstate]; rfl, rfl, hc, hpop⟩
  | c => exact ⟨by rw [hstate]; rfl, hp, rfl, hpop⟩

/-- An action raises a fault by a failed check or by the pop of a reserved word. -/
theorem Act.faultsTo (hact : Act s t) (hf : s.faulted = false) (ht : t.faulted = true) :
    s.FaultsTo t := by
  cases hact
  case trap pid tr ans _ _ => exact (s.faultsTo_raiseFault tr pid.bit false).complete pid ans
  case opTrap tr _ _ => exact s.faultsTo_raiseFault tr true true
  case reserved =>
    have hf' : ({ s with p2c := none } : State).faulted = false := hf
    exact ⟨rfl, by simp, by simp, .inr ⟨rfl, by rw [State.raiseFault_fault, hf']; rfl⟩⟩
  case done hr => simp [hr.faulted, hf] at ht
  case start hr => simp [hr.faulted, hf] at ht
  case opDone hr => simp [hr.faulted, hf] at ht
  case opStart hr => exact absurd (hr.faulted.symm.trans ht) (by simp [hf])
  case answer | wait => simp [hf] at ht
  case take =>
    rw [State.faulted, State.takeCommand_fault] at ht
    exact absurd (hf.symm.trans ht) (by simp)
  case idle | opEnd | swreset | wire | unknownByte | line =>
    exact absurd (hf.symm.trans ht) (by simp)

/-- The turns and the ports of `s` are all that a fault in `x` finds changed. -/
theorem State.FaultsTo.of_prepared
    (hx : x = { s with portP := x.portP, portC := x.portC, turns := x.turns })
    (h : x.FaultsTo t) : s.FaultsTo t := by
  obtain ⟨hstate, hp, hc, hpop⟩ := h
  rw [hx] at hstate hpop
  exact ⟨hstate, hp, hc, hpop⟩

end Faults

/-- Settles O29. The block reset and E's turn raise no fault, any other turn prepares only ports and
turns, and its action raises one precisely. -/
theorem faultsArePrecise : Obligations.FaultsArePrecise := by
  intro s t hf hs ht
  suffices h : s.FaultsTo t from ⟨h.state, h.freeP, h.freeC, h.pop⟩
  rcases step_runs hs with rfl | ⟨x, hprep, hrun⟩
  · simp at ht
  · cases hprep with
    | stay => exact hrun.act.faultsTo hf ht
    | @release pid i hready =>
      refine .of_prepared ?_ (hrun.act.faultsTo (by simpa using hf) ht)
      cases pid <;> rfl
    | turn ts => exact .of_prepared rfl (hrun.act.faultsTo hf ht)
    | issue ts pid rest hfree =>
      refine .of_prepared ?_ (hrun.act.faultsTo (by simpa using hf) ht)
      cases pid <;> rfl
    | perform ts q rest hready hturns _ hqueue =>
      rw [step_performs hready hf hturns hqueue] at hs
      cases hs
      simp [hf] at ht

end Sys2Proof.Machine
end

section
namespace Sys2Proof.Machine

/-! ## Whole commands -/

/-! ### Runs -/

/-- `n` steps lead from `s` to `t`. -/
def RunsTo (n : Nat) (s t : State) : Prop := Host.Core.run Sys2Proof.core n s = .next t

theorem RunsTo.refl (s : State) : RunsTo 0 s s := rfl

theorem RunsTo.head {s s' t : State} {n : Nat} (hstep : step s = .next s') (h : RunsTo n s' t) :
    RunsTo (n + 1) s t := (run_succ hstep).trans h

theorem RunsTo.single {s t : State} (hstep : step s = .next t) : RunsTo 1 s t :=
  .head hstep (.refl t)

theorem RunsTo.trans {s t u : State} {m n : Nat} (h : RunsTo m s t) (h' : RunsTo n t u) :
    RunsTo (m + n) s u := by
  induction m generalizing s with
  | zero =>
    cases h
    rwa [Nat.zero_add]
  | succ m ih =>
    obtain ⟨s', hstep⟩ := step_next s
    have hrest : RunsTo m s' t := (run_succ hstep).symm.trans h
    rw [Nat.add_right_comm]
    exact .head hstep (ih hrest)

/-- The block once E has performed the entries `q`, none of which completes an operation: `rest` is
still queued and `ts` are the turns to come. -/
def State.drained (s : State) (ts : List Turn) (q rest : List QItem) : State :=
  { s with
    turns := ts
    opQueue := rest
    trace := s.trace ++ q.map (·.ev)
    pins := q.foldl Pins.afterItem s.pins
    panel := (q.map (·.ev)).foldl (Panel.event s.cfg) s.panel
    initDone := s.initDone || q.any (·.endsInit) }

/-- An entry that completes nothing. -/
theorem State.performed_of_plain {s : State} {q : QItem} (h : q.ends = none) (ts : List Turn)
    (rest : List QItem) : s.performed ts q rest = s.drained ts [q] rest := by
  simp [State.performed, State.perform, State.operationDone, h, State.drained]

/-- The last entry of D's operation completes it (R145, R290). -/
theorem State.performed_of_disp {s : State} {q : QItem} {w : Word} {k : Nat}
    (hp : s.phase = .exec w k true) (ts : List Turn) (rest : List QItem) :
    s.performed ts { q with ends := some .disp } rest =
      { s.drained ts [q] rest with phase := execPhase w (commandOps s.cfg w).length (k + 1) } := by
  simp [State.performed, State.perform, State.operationDone, State.dispatcherDone, hp,
    State.drained, Pins.afterItem]

theorem State.drained_drained (s : State) (ts ts' : List Turn) (q q' rest rest' : List QItem) :
    (s.drained ts q rest).drained ts' q' rest' = s.drained ts' (q ++ q') rest' := by
  simp [State.drained, Bool.or_assoc]

/-- The two ports hold nothing and the block is not faulted. -/
structure State.Quiet (s : State) : Prop where
  faulted : s.faulted = false
  freeP : s.portP.hold = none
  freeC : s.portC.hold = none

theorem State.Quiet.readyHeld {s : State} (h : s.Quiet) : s.readyHeld = none :=
  State.readyHeld_none (.inl h.freeP) (.inl h.freeC)

theorem State.Quiet.drained {s : State} (h : s.Quiet) (ts : List Turn) (q rest : List QItem) :
    (s.drained ts q rest).Quiet := ⟨h.faulted, h.freeP, h.freeC⟩

/-- E's turns over entries that complete nothing. -/
theorem runsTo_drained {s : State} (h : s.Quiet) {q rest : List QItem} {ts : List Turn}
    (hqueue : s.opQueue = q ++ rest) (hturns : s.turns = List.replicate q.length .e ++ ts)
    (hends : q.all (·.ends = none) = true) : RunsTo q.length s (s.drained ts q rest) := by
  induction q generalizing s with
  | nil =>
    obtain rfl : s.opQueue = rest := hqueue
    obtain rfl : s.turns = ts := hturns
    simp [State.drained, RunsTo.refl]
  | cons a q ih =>
    simp only [List.all_cons, Bool.and_eq_true, decide_eq_true_eq] at hends
    obtain ⟨ha, hq⟩ := hends
    have hstep : step s = .next (s.drained (List.replicate q.length .e ++ ts) [a] (q ++ rest)) := by
      rw [← State.performed_of_plain ha]
      exact step_performs h.readyHeld h.faulted hturns hqueue
    have htail := ih (h.drained (List.replicate q.length .e ++ ts) [a] (q ++ rest)) rfl rfl hq
    rw [State.drained_drained] at htail
    exact .head hstep htail

/-! ### The turns of a command -/

/-- `s` with `ts` as the turns to come. -/
def State.withTurns (s : State) (ts : List Turn) : State := { s with turns := ts }

/-- `s` with the stream open or closed. -/
def State.withStream (s : State) (isOpen : Bool) : State := { s with streamOpen := isOpen }

/-- D has popped `w` and is to issue its first operation (R290). -/
def State.popped (s : State) (w : Word) : State := { s with p2c := none, phase := .exec w 0 false }

/-- D waits for E, behind operation `k` of `w` with the entries `q`. -/
def State.issuing (s : State) (w : Word) (k : Nat) (q : List QItem) : State :=
  { s.enqueue (markEnd .disp q) with phase := .exec w k true }

/-- The block once E has performed all entries `q` of an operation of D's, which is then in phase
`p`. -/
def State.operated (s : State) (q : List QItem) (p : Phase) : State :=
  { s.drained s.turns q [] with phase := p }

/-- What E's turns leave of an issued operation is what its rule started in. -/
theorem State.issuing_operated (s : State) (us ts : List Turn) (w : Word) (k : Nat) (q : List QItem)
    (p : Phase) :
    (((s.withTurns us).issuing w k q).operated q p).withTurns ts =
      (s.operated q p).withTurns ts := by
  simp only [State.withTurns, State.issuing, State.operated, State.drained, State.enqueue]

section Fields

variable (s : State) (ts : List Turn) (isOpen : Bool) (w : Word) (q : List QItem) (p : Phase)

@[simp] theorem State.withTurns_busy : (s.withTurns ts).busy = s.busy := rfl
@[simp] theorem State.withTurns_p2c : (s.withTurns ts).p2c = s.p2c := rfl
@[simp] theorem State.withTurns_initDone : (s.withTurns ts).initDone = s.initDone := rfl
@[simp] theorem State.withTurns_opQueue : (s.withTurns ts).opQueue = s.opQueue := rfl
@[simp] theorem State.withTurns_winCol : (s.withTurns ts).winCol = s.winCol := rfl
@[simp] theorem State.withTurns_winRow : (s.withTurns ts).winRow = s.winRow := rfl
@[simp] theorem State.withTurns_pins : (s.withTurns ts).pins = s.pins := rfl
@[simp] theorem State.withTurns_trace : (s.withTurns ts).trace = s.trace := rfl
@[simp] theorem State.withTurns_faulted : (s.withTurns ts).faulted = s.faulted := rfl

@[simp] theorem State.withStream_busy : (s.withStream isOpen).busy = s.busy := rfl
@[simp] theorem State.withStream_initDone : (s.withStream isOpen).initDone = s.initDone := rfl
@[simp] theorem State.withStream_winCol : (s.withStream isOpen).winCol = s.winCol := rfl
@[simp] theorem State.withStream_winRow : (s.withStream isOpen).winRow = s.winRow := rfl
@[simp] theorem State.withStream_trace : (s.withStream isOpen).trace = s.trace := rfl
@[simp] theorem State.withStream_faulted : (s.withStream isOpen).faulted = s.faulted := rfl

@[simp] theorem State.popped_p2c : (s.popped w).p2c = none := rfl
@[simp] theorem State.popped_busy : (s.popped w).busy = s.busy := rfl
@[simp] theorem State.popped_trace : (s.popped w).trace = s.trace := rfl
@[simp] theorem State.popped_faulted : (s.popped w).faulted = s.faulted := rfl

@[simp] theorem State.operated_opQueue : (s.operated q p).opQueue = [] := rfl
@[simp] theorem State.operated_trace :
    (s.operated q p).trace = s.trace ++ q.map (·.ev) := rfl
@[simp] theorem State.operated_pins :
    (s.operated q p).pins = q.foldl Pins.afterItem s.pins := rfl
@[simp] theorem State.operated_busy : (s.operated q p).busy = s.busy := rfl
@[simp] theorem State.operated_p2c : (s.operated q p).p2c = s.p2c := rfl
@[simp] theorem State.operated_winCol : (s.operated q p).winCol = s.winCol := rfl
@[simp] theorem State.operated_winRow : (s.operated q p).winRow = s.winRow := rfl
@[simp] theorem State.operated_faulted : (s.operated q p).faulted = s.faulted := rfl

/-- Only C_INIT's events end an initialization (R153). -/
theorem State.operated_initDone (h : q.all (·.endsInit = false) = true) :
    (s.operated q p).initDone = s.initDone := by
  have hany : q.any (·.endsInit) = false := by simpa using h
  show (s.initDone || q.any (·.endsInit)) = s.initDone
  rw [hany, Bool.or_false]

end Fields

namespace State.Quiet

variable {s : State} (h : s.Quiet)

include h

theorem withTurns (ts : List Turn) : (s.withTurns ts).Quiet := ⟨h.faulted, h.freeP, h.freeC⟩

theorem withStream (isOpen : Bool) : (s.withStream isOpen).Quiet := ⟨h.faulted, h.freeP, h.freeC⟩

theorem popped (w : Word) : (s.popped w).Quiet := ⟨h.faulted, h.freeP, h.freeC⟩

theorem stageWindow (cs ce rs re : Half) : (s.stageWindow cs ce rs re).Quiet :=
  ⟨h.faulted, h.freeP, h.freeC⟩

theorem operated (q : List QItem) (p : Phase) : (s.operated q p).Quiet :=
  ⟨h.faulted, h.freeP, h.freeC⟩

end State.Quiet

section Operations

variable {s s' : State} {w : Word} {k : Nat} {ts : List Turn} {off : Half} {v : Word}
  {ops : List (Half × Word)}

/-- E's turns over the operation that D has issued: the last one completes it (R145, R290). -/
theorem runsTo_completed (h : s.Quiet) {q : List QItem} (hp : s.phase = .exec w k true)
    (hqueue : s.opQueue = markEnd .disp q) (hturns : s.turns = List.replicate q.length .e ++ ts)
    (hne : q ≠ []) (hends : q.all (·.ends = none) = true) :
    RunsTo q.length s
      ((s.operated q (execPhase w (commandOps s.cfg w).length (k + 1))).withTurns ts) := by
  obtain ⟨init, last, rfl⟩ : ∃ init last, q = init ++ [last] :=
    ⟨_, _, (List.dropLast_concat_getLast hne).symm⟩
  rw [markEnd_append] at hqueue
  rw [List.all_append, Bool.and_eq_true] at hends
  obtain ⟨hinit, -⟩ := hends
  have hdrain := runsTo_drained (ts := .e :: ts) h hqueue
    (by simpa [List.replicate_succ'] using hturns) hinit
  have hdrained := h.drained (.e :: ts) init [{ last with ends := some .disp }]
  have hlast := step_performs (ts := ts) hdrained.readyHeld hdrained.faulted rfl rfl
  rw [State.performed_of_disp (s := s.drained (.e :: ts) init _) hp, State.drained_drained] at hlast
  rw [List.length_append]
  exact hdrain.trans (.single hlast)

/-- D's turn in EXEC(w, k): it issues the operation. -/
theorem step_issues (h : s.Quiet) (hp : s.phase = .exec w k false)
    (hop : (commandOps s.cfg w)[k]? = some (off, v)) (ts : List Turn) :
    step (s.withTurns (.d :: ts)) = .next ((s.withTurns ts).dispatcherIssue w k off v) := by
  rw [step_of_turn (h.withTurns (.d :: ts)).readyHeld rfl, stepTurn]
  show stepDispatcher (s.withTurns ts) = _
  rw [stepDispatcher_exec (h.withTurns ts).faulted hp,
    dispatcherExec_issues (s := s.withTurns ts) hop]

theorem dispatcherIssue_of_start {q : List QItem} (hne : q ≠ [])
    (hrule : dispatcherOp off v s = .start s' q) :
    s.dispatcherIssue w k off v = s'.issuing w k q := by
  obtain ⟨a, r, rfl⟩ := List.exists_cons_of_ne_nil hne
  simp only [State.dispatcherIssue, hrule, State.issuing]

/-- D issues an operation that queues `q`, and E performs it to its end. -/
theorem runsTo_operated (h : s.Quiet) (hempty : s.opQueue = []) (hp : s.phase = .exec w k false)
    (hops : commandOps s.cfg w = ops) (hop : ops[k]? = some (off, v)) {q : List QItem}
    (hrule : ∀ us, dispatcherOp off v (s.withTurns us) = .start (s'.withTurns us) q)
    (hne : q ≠ []) :
    RunsTo (q.length + 1) (s.withTurns (.d :: (List.replicate q.length .e ++ ts)))
      ((s'.operated q (execPhase w ops.length (k + 1))).withTurns ts) := by
  subst hops
  have hfit := dispatcherOp_fits (s := s.withTurns []) off v
  rw [hrule] at hfit
  obtain ⟨hr, -, hends⟩ := hfit
  have hstep := step_issues h hp hop (List.replicate q.length .e ++ ts)
  rw [dispatcherIssue_of_start hne (hrule _)] at hstep
  have hqueue : s'.opQueue ++ markEnd .disp q = markEnd .disp q :=
    congrArg (· ++ _) (hr.opQueue.trans hempty)
  have hissued : ((s'.withTurns (List.replicate q.length .e ++ ts)).issuing w k q).Quiet :=
    ⟨hr.faulted.trans h.faulted, hr.portP ▸ h.freeP, hr.portC ▸ h.freeC⟩
  have hrun := runsTo_completed (ts := ts) hissued rfl hqueue rfl hne hends
  rw [State.issuing_operated] at hrun
  have hcfg : s'.cfg = s.cfg := hr.cfg
  rw [← hcfg]
  exact .head hstep hrun

/-- A run that goes on with D's next operation. -/
theorem RunsTo.operation {n : Nat} {u : State} {us : List Turn} (hrun : RunsTo n u (s.withTurns us))
    (h : s.Quiet) (hempty : s.opQueue = []) (hp : s.phase = .exec w k false)
    (hops : commandOps s.cfg w = ops) (hop : ops[k]? = some (off, v)) {q : List QItem}
    (hrule : ∀ us, dispatcherOp off v (s.withTurns us) = .start (s'.withTurns us) q)
    (hne : q ≠ [])
    (hturns : us = .d :: (List.replicate q.length .e ++ ts)) :
    RunsTo (n + (q.length + 1)) u
      ((s'.operated q (execPhase w ops.length (k + 1))).withTurns ts) := by
  subst hturns
  exact hrun.trans (runsTo_operated h hempty hp hops hop hrule hne)

end Operations

end Sys2Proof.Machine
end

section
namespace Sys2Proof.Machine

/-! ## The command words, run to their ends -/

/-! ### The pop -/

/-- D's turn in WAIT_CMD, with a word in P2C that has operations. -/
theorem runsTo_popped {s : State} {w : Word} (h : s.Quiet) (hp : s.phase = .waitCmd)
    (hfull : s.p2c = some w) (hops : commandOps s.cfg w ≠ []) (ts : List Turn) :
    RunsTo 1 (s.withTurns (.d :: ts)) ((s.popped w).withTurns ts) := by
  refine .single ?_
  rw [step_runs_command (h.withTurns (.d :: ts)).readyHeld rfl h.faulted hp hfull]
  exact exec_command_of_ops
    (State.dispatcherReady_of_full (s := s.withTurns ts) h.faulted hp hfull) hops

theorem windowEvents_ev (cs ce rs re : Half) :
    (windowEvents cs ce rs re).map (·.ev) = windowWire cs ce rs re := rfl

theorem streamEvents_ev (colors : List Half) :
    (streamEvents colors).map (·.ev) = streamWire colors := by
  simp [streamEvents, streamWire, half, plain, streamOpenItem, streamCloseItem, List.map_flatMap]

/-! ### What D's operations start (R291, R297) -/

section Rules

variable {s : State} {us : List Turn}

theorem dispatcherOp_pixel (hopen : s.streamOpen = true) (c : Half) :
    dispatcherOp 0x0058 (zextHalf c) (s.withTurns us) = .start (s.withTurns us) (half c) := by
  have hpixel := linkPixel_of_open (s := s.withTurns us) (zextHalf c) hopen
  rwa [lowHalf_zextHalf] at hpixel

theorem dispatcherOp_streamEnd (hopen : s.streamOpen = true) :
    dispatcherOp 0x005C 0 (s.withTurns us) =
      .start ((s.withStream false).withTurns us) [streamCloseItem] :=
  linkStreamEnd_of_open (s := s.withTurns us) hopen

variable (hclosed : s.streamOpen = false)

include hclosed

theorem dispatcherOp_idle (b : Bool) :
    dispatcherOp 0x007C (zextBool b) (s.withTurns us) =
      .start (s.withTurns us) (frame (if b then 0x39 else 0x38) []) := by
  refine (linkIdle_of_closed (s := s.withTurns us) (zextBool b) hclosed).trans ?_
  cases b <;> rfl

theorem dispatcherOp_invert (b : Bool) :
    dispatcherOp 0x0070 (zextBool b) (s.withTurns us) =
      .start (s.withTurns us) (frame (if b then 0x21 else 0x20) []) := by
  refine (linkInvert_of_closed (s := s.withTurns us) (zextBool b) hclosed).trans ?_
  cases b <;> rfl

theorem dispatcherOp_streamBegin :
    dispatcherOp 0x0054 0 (s.withTurns us) =
      .start ((s.withStream true).withTurns us) [streamOpenItem] :=
  linkStreamBegin_of_closed (s := s.withTurns us) hclosed

/-- The first cell of the display region lies in the panel (R7). -/
theorem dispatcherOp_setAddress (hlegal : s.cfg.Legal) :
    let x := truncHalf s.cfg.x0
    let y := truncHalf s.cfg.y0
    dispatcherOp 0x0050 (pairWord y x) (s.withTurns us) =
      .start ((s.stageWindow x x y y).withTurns us) (windowEvents x x y y) := by
  obtain ⟨hw, hw', hh, hh', hl, hlw, -, hr, hrh, -⟩ := hlegal
  have hx : (truncHalf s.cfg.x0).toNat = s.cfg.x0 := toNat_ofNat_half (by unfold Params.x0; omega)
  have hy : (truncHalf s.cfg.y0).toNat = s.cfg.y0 := toNat_ofNat_half (by unfold Params.y0; omega)
  exact linkSetAddress_of_inside (s := s.withTurns us) hclosed
    (show _ < s.cfg.panelW by rw [hx]; unfold Params.x0; omega)
    (show _ < s.cfg.panelH by rw [hy]; unfold Params.y0; omega)

theorem dispatcherOp_drawLine (hbusy : s.busy = true) {row : Half} (hrow : row.toNat < s.cfg.srcH)
    {colors : List Half} (hmap : ∀ us, mapRow (s.withTurns us) = .ok colors) :
    let cs := truncHalf s.cfg.x0
    let ce := truncHalf (s.cfg.x0 + s.cfg.lineW - 1)
    let r := truncHalf (s.cfg.y0 + row.toNat)
    dispatcherOp 0x0080 (zextHalf row) (s.withTurns us) =
      .start ((s.stageWindow cs ce r r).withTurns us)
        (windowEvents cs ce r r ++ streamEvents colors) := by
  have hdraw := linkDrawLine_of_mapped (s := s.withTurns us) (v := zextHalf row) hclosed hbusy
    (by rwa [lowHalf_zextHalf]) (hmap us)
  rwa [lowHalf_zextHalf] at hdraw

end Rules

/-! ### SET_IDLE -/

/-- Settles O33: the pop, then two operations of one command frame each. -/
theorem setIdleRuns : Obligations.SetIdleRuns := by
  intro s invert idle hf hp hfreeP hfreeC hempty hclosed hfull
  rw [setIdleWord_eq] at hfull
  have h : s.Quiet := ⟨hf, hfreeP, hfreeC⟩
  have hops := commandOps_setIdle s.cfg invert idle
  have hpop := runsTo_popped h hp hfull (by simp [hops, setIdleOps])
    [.d, .e, .e, .e, .d, .e, .e, .e]
  have hidle := hpop.operation (h.popped _) hempty rfl hops rfl
    (fun _ => dispatcherOp_idle (s := s.popped _) hclosed idle) (by simp [frame]) rfl
  have hinvert := hidle.operation ((h.popped _).operated _ _) rfl rfl hops rfl
    (fun _ => dispatcherOp_invert (s := (s.popped _).operated _ _) hclosed invert) (by simp [frame])
    rfl
  refine ⟨_, hinvert, ?trace, rfl, rfl, rfl, ?initDone, rfl, hf⟩
  case trace => simp [frame, plain]
  case initDone =>
    rw [State.withTurns_initDone, State.operated_initDone _ _ _ (frame_endsInit ..),
      State.operated_initDone _ _ _ (frame_endsInit ..)]
    rfl

/-! ### SET_PIXEL -/

/-- D has sent the cell's window and opened the stream of SET_PIXEL word `w`; the pixel is next. -/
def State.pixelBegun (s : State) (w : Word) (x y : Half) : State :=
  ((((s.popped w).stageWindow x x y y).operated (windowEvents x x y y) (.exec w 1 false)).withStream
    true).operated [streamOpenItem] (.exec w 2 false)

theorem State.Quiet.pixelBegun {s : State} (h : s.Quiet) (w : Word) (x y : Half) :
    (s.pixelBegun w x y).Quiet :=
  ((((h.popped w).stageWindow x x y y).operated ..).withStream true).operated ..

theorem State.pixelBegun_initDone (s : State) (w : Word) (x y : Half) :
    (s.pixelBegun w x y).initDone = s.initDone :=
  (State.operated_initDone _ _ (.exec w 2 false) rfl).trans
    (State.operated_initDone _ _ (.exec w 1 false) (windowEvents_endsInit ..))

/-- SET_PIXEL up to its begin (R295). -/
theorem runsTo_pixelBegun {s : State} {c : Half} (h : s.Quiet) (hlegal : s.cfg.Legal)
    (hp : s.phase = .waitCmd) (hempty : s.opQueue = []) (hclosed : s.streamOpen = false)
    (hfull : s.p2c = some (setPixelWord c)) (ts : List Turn) :
    RunsTo 21 (s.withTurns (.d :: .d :: (List.replicate 17 .e ++ .d :: .e :: ts)))
      ((s.pixelBegun (setPixelWord c) (truncHalf s.cfg.x0) (truncHalf s.cfg.y0)).withTurns ts) := by
  have hops := commandOps_setPixel s.cfg c
  have hpop := runsTo_popped h hp hfull (by simp [hops, setPixelOps])
    (.d :: (List.replicate 17 .e ++ .d :: .e :: ts))
  have hwindow := hpop.operation (ts := .d :: .e :: ts) (h.popped _) hempty rfl hops rfl
    (fun _ => dispatcherOp_setAddress (s := s.popped _) hclosed hlegal)
    (by simp [windowEvents, frame]) rfl
  exact hwindow.operation (ts := ts) (((h.popped _).stageWindow ..).operated ..) rfl rfl hops rfl
    (fun _ => dispatcherOp_streamBegin (s := State.operated _ _ _) hclosed) (by simp) rfl

/-- The stream frame selects the panel with DC = 1 (R158). -/
theorem Pins.afterItem_streamOpen (p : Pins) :
    p.afterItem streamOpenItem = { p with dc := true, csn := false } := rfl

/-- Settles O34: the window and the begin, then the pixel and the end. -/
theorem setPixelRuns : Obligations.SetPixelRuns := by
  intro s c hlegal hf hp hfreeP hfreeC hempty hclosed hfull
  show _ ∧ _
  rw [setPixelWord_eq] at hfull
  have h : s.Quiet := ⟨hf, hfreeP, hfreeC⟩
  have hbegun := runsTo_pixelBegun h hlegal hp hempty hclosed hfull
  have hops := commandOps_setPixel s.cfg c
  have hpixel := (hbegun [.d, .e, .e, .d, .e]).operation (h.pixelBegun ..) rfl rfl hops rfl
    (fun _ => dispatcherOp_pixel (s := s.pixelBegun ..) rfl c) (by simp [half]) rfl
  have hend := hpixel.operation ((h.pixelBegun ..).operated ..) rfl rfl hops rfl
    (fun _ => dispatcherOp_streamEnd (s := (s.pixelBegun ..).operated ..) rfl) (by simp) rfl
  refine ⟨⟨_, hbegun [], ?begun, rfl, ?dc, ?csn⟩,
    ⟨_, hend, ?trace, ?winCol, ?winRow, rfl, rfl, ?busy, ?initDone, rfl, rfl, ?unfaulted⟩⟩
  case begun =>
    simp [State.pixelBegun, windowEvents_ev, truncHalf, Params.x0, Params.y0, streamOpenItem]
  case dc | csn => simp [State.pixelBegun, Pins.afterItem_streamOpen]
  case trace =>
    simp [State.pixelBegun, windowEvents_ev, truncHalf, Params.x0, Params.y0, streamOpenItem,
      streamWire, half, plain, streamCloseItem]
  case winCol => simp [State.pixelBegun, pairWord, truncHalf, Params.x0]
  case winRow => simp [State.pixelBegun, pairWord, truncHalf, Params.y0]
  case busy => simp [State.pixelBegun]
  case initDone =>
    rw [State.withTurns_initDone, State.operated_initDone _ _ _ rfl, State.withStream_initDone,
      State.operated_initDone _ _ _ rfl, State.pixelBegun_initDone]
  case unfaulted => simpa [State.pixelBegun] using hf

/-! ### DRAW_LINE -/

theorem streamEvents_length (colors : List Half) :
    (streamEvents colors).length = 2 + 2 * colors.length := by
  simp [streamEvents, half]
  omega

/-- A row whose elements all map (R170). -/
theorem mapRow_eq_ok {s : State} {colors : List Half} (hlen : colors.length = s.cfg.lineW)
    (hcolors : ∀ i, i < s.cfg.lineW → ∃ e, s.linebuf.read i = some e ∧ e.extractLsb' 4 4 = 0 ∧
      s.palette.read (e.extractLsb' 0 4).toNat = colors[i]?) : mapRow s = .ok colors := by
  rw [mapRow, ← hlen]
  refine mapRowFrom_eq_ok fun j c hj => ?_
  obtain ⟨hj', -⟩ := List.getElem?_eq_some_iff.1 hj
  obtain ⟨e, hread, hres, hentry⟩ := hcolors j (hlen ▸ hj')
  rw [Nat.zero_add]
  exact mapElement_of_entry hread hres (hentry.trans hj)

/-- E has sent the row of DRAW_LINE word `w`; D is to free the line buffer. -/
def State.rowDrawn (s : State) (w : Word) (cs ce r : Half) (colors : List Half) : State :=
  ((s.popped w).stageWindow cs ce r r).operated (windowEvents cs ce r r ++ streamEvents colors)
    (.exec w 1 false)

theorem State.Quiet.rowDrawn {s : State} (h : s.Quiet) (w : Word) (cs ce r : Half)
    (colors : List Half) : (s.rowDrawn w cs ce r colors).Quiet :=
  ((h.popped w).stageWindow cs ce r r).operated ..

theorem State.rowDrawn_trace (s : State) (w : Word) (cs ce r : Half) (colors : List Half) :
    (s.rowDrawn w cs ce r colors).trace = s.trace ++ windowWire cs ce r r ++ streamWire colors := by
  simp [State.rowDrawn, windowEvents_ev, streamEvents_ev]

theorem State.rowDrawn_initDone (s : State) (w : Word) (cs ce r : Half) (colors : List Half) :
    (s.rowDrawn w cs ce r colors).initDone = s.initDone := by
  refine State.operated_initDone _ _ (.exec w 1 false) ?_
  rw [List.all_append, windowEvents_endsInit, streamEvents_endsInit]
  rfl

/-- DRAW_LINE up to the last event of its row (R293). -/
theorem runsTo_rowDrawn {s : State} {row : Half} {colors : List Half} (h : s.Quiet)
    (hp : s.phase = .waitCmd) (hempty : s.opQueue = []) (hclosed : s.streamOpen = false)
    (hbusy : s.busy = true) (hrow : row.toNat < s.cfg.srcH) (hlen : colors.length = s.cfg.lineW)
    (hmap : ∀ us, mapRow ((s.popped (drawLineWord row)).withTurns us) = .ok colors)
    (hfull : s.p2c = some (drawLineWord row)) (ts : List Turn) :
    RunsTo (19 + 2 * s.cfg.lineW + 2)
      (s.withTurns (.d :: .d :: (List.replicate (19 + 2 * s.cfg.lineW) .e ++ ts)))
      ((s.rowDrawn (drawLineWord row) (truncHalf s.cfg.x0)
        (truncHalf (s.cfg.x0 + s.cfg.lineW - 1)) (truncHalf (s.cfg.y0 + row.toNat))
        colors).withTurns ts) := by
  have hops := commandOps_drawLine s.cfg row
  have hlength (cs ce r : Half) :
      (windowEvents cs ce r r ++ streamEvents colors).length = 19 + 2 * s.cfg.lineW := by
    rw [List.length_append, streamEvents_length, hlen, ← Nat.add_assoc]
    rfl
  have hpop := runsTo_popped h hp hfull (by simp [hops, drawLineOps])
    (.d :: (List.replicate (19 + 2 * s.cfg.lineW) .e ++ ts))
  have hdraw := hpop.operation (ts := ts) (h.popped _) hempty rfl hops rfl
    (fun _ => dispatcherOp_drawLine (s := s.popped _) hclosed hbusy hrow hmap)
    (by simp [windowEvents, frame]) (by rw [hlength])
  rw [hlength, Nat.add_comm 1] at hdraw
  exact hdraw

/-- D has freed the line buffer, and waits again. -/
def State.freed (s : State) : State := { s with busy := false, phase := .waitCmd }

/-- D's mark_free, the last operation of a DRAW_LINE, completes at once (R293, R297). -/
theorem runsTo_freed {s : State} {row : Half} (h : s.Quiet)
    (hp : s.phase = .exec (drawLineWord row) 1 false) (ts : List Turn) :
    RunsTo 1 (s.withTurns (.d :: ts)) (s.freed.withTurns ts) := by
  have hops : (commandOps s.cfg (drawLineWord row))[1]? = some (0x0004, 1) := by
    rw [commandOps_drawLine]
    rfl
  have hlen : (commandOps s.cfg (drawLineWord row)).length = 2 := by
    rw [commandOps_drawLine]
    rfl
  refine .single ((step_issues h hp hops ts).trans ?_)
  show Host.Outcome.next (State.dispatcherDone { s.withTurns ts with busy := false }) = _
  simp [State.dispatcherDone, hp, hlen, execPhase, State.withTurns, State.freed]

/-- Settles O35: the pop and the row's one link operation, in which BUSY stays, then mark_free. -/
theorem drawLineRuns : Obligations.DrawLineRuns := by
  intro s row colors hf hp hfreeP hfreeC hempty hclosed hbusy hrow hlen hcolors hfull
  show _ ∧ _
  rw [drawLineWord_eq] at hfull
  have h : s.Quiet := ⟨hf, hfreeP, hfreeC⟩
  have hdrawn := runsTo_rowDrawn h hp hempty hclosed hbusy hrow hlen
    (fun us => mapRow_eq_ok (s := (s.popped _).withTurns us) hlen hcolors) hfull
  have hwire := hdrawn []
  rw [List.append_nil] at hwire
  have hwhole := (hdrawn [.d]).trans (runsTo_freed (h.rowDrawn ..) rfl [])
  refine ⟨⟨_, hwire, ?marked, ?wire⟩,
    ⟨_, hwhole, ?trace, rfl, rfl, ?p2c, ?opQueue, ?initDone, ?winCol, ?winRow, ?unfaulted⟩⟩
  case marked => simpa [State.rowDrawn] using hbusy
  case wire => simp [State.rowDrawn_trace, truncHalf, Params.x0, Params.y0]
  case trace => simp [State.freed, State.rowDrawn_trace, truncHalf, Params.x0, Params.y0]
  case p2c | opQueue => simp [State.freed, State.rowDrawn]
  case initDone => simp [State.freed, State.rowDrawn_initDone]
  case winCol => simp [State.freed, State.rowDrawn, pairWord, truncHalf, Params.x0]
  case winRow => simp [State.freed, State.rowDrawn, pairWord, truncHalf, Params.y0]
  case unfaulted => exact hf

end Sys2Proof.Machine
end

section
namespace Sys2Proof.Machine

/-! ## A faulted block -/

/-- `t` is `s` but for the ports and the turns. -/
def State.SameButPorts (s t : State) : Prop :=
  t = { s with portP := t.portP, portC := t.portC, turns := t.turns }

section Faulted

variable {s t u : State}

theorem State.SameButPorts.refl (s : State) : s.SameButPorts s := rfl

theorem State.SameButPorts.trans (h : s.SameButPorts t) (h' : t.SameButPorts u) :
    s.SameButPorts u := by
  unfold State.SameButPorts at h h'
  rw [h] at h'
  exact h'

theorem State.sameButPorts_setPort (s : State) (pid : PortId) (q : Port) :
    s.SameButPorts (s.setPort pid q) := by cases pid <;> rfl

theorem State.sameButPorts_complete (s : State) (pid : PortId) (ans : Option Word) :
    s.SameButPorts (s.complete pid ans) := s.sameButPorts_setPort pid _

/-- While the block is faulted an access at most answers its host (43_busy_status.md R277). -/
theorem AccessForm.sameButPorts {i : Instr} {pid : PortId} {isRead : Bool}
    (h : AccessForm i pid isRead) (hf : s.faulted = true) (he : exec i s = .next t) :
    s.SameButPorts t := by
  cases hport : (s.port pid).hold with
  | some x =>
    rw [h.exec_of_held (by simp [hport])] at he
    cases he
    exact .refl s
  | none =>
    cases h with
    | status v _ hexec =>
      rw [hexec, State.statusRead, if_neg (by simp [hport])] at he
      cases he
      exact s.sameButPorts_complete pid _
    | rule body hexec =>
      rw [hexec, State.access_of_faulted hport hf] at he
      cases he
      exact s.sameButPorts_complete pid _

theorem execAccess_sameButPorts {i : Instr} {width : Nat} {A : BitVec 18} {D : Word}
    (hf : s.faulted = true) (henc : encode i = .access width A D) (he : exec i s = .next t) :
    s.SameButPorts t := by
  obtain ⟨_, _, hat⟩ := accessAt_of_encode henc
  exact hat.form.sameButPorts hf he

/-- The turn of a host. -/
theorem stepHost_sameButPorts (hf : s.faulted = true) (pid : PortId)
    (hs : stepHost pid s = .next t) : s.SameButPorts t := by
  rcases stepHost_cases pid s with ⟨-, e⟩ | ⟨a, s', hn, hcases⟩
  · rw [e] at hs
    cases hs
    exact .refl s
  · obtain ⟨-, rest, rfl⟩ := State.nextAccess_eq_some hn
    refine (s.sameButPorts_setPort pid { s.port pid with reqs := rest }).trans ?_
    rcases hcases with ⟨i, hdec, e⟩ | ⟨e', -, e⟩ <;> rw [e] at hs
    · exact execAccess_sameButPorts (by simpa using hf) (decodeOffset_eq_ok hdec).1 hs
    · rw [State.refuseAccess_of_faulted (by simpa using hf)] at hs
      cases hs
      exact State.sameButPorts_complete _ pid _

/-- The dispatcher takes no step in a faulted block (60_exceptions.md R312). -/
theorem stepDispatcher_of_faulted (hf : s.faulted = true) : stepDispatcher s = .next s := if_pos hf

/-- The engine takes no step in a faulted block (60_exceptions.md R312). -/
theorem stepEngine_of_faulted (hf : s.faulted = true) : stepEngine s = .next s := by
  have hnone : s.nextItem = none := if_pos hf
  rw [stepEngine, hnone]

/-- The turn of an agent. -/
theorem stepTurn_sameButPorts (hf : s.faulted = true) {turn : Turn} (hno : turn ≠ .reset)
    (hs : stepTurn turn s = .next t) : s.SameButPorts t := by
  cases turn with
  | p => exact stepHost_sameButPorts hf .p hs
  | c => exact stepHost_sameButPorts hf .c hs
  | d =>
    cases (stepDispatcher_of_faulted hf).symm.trans hs
    exact .refl s
  | e =>
    cases (stepEngine_of_faulted hf).symm.trans hs
    exact .refl s
  | reset => exact absurd rfl hno

end Faulted

/-- Settles O28. A held access and a host's access only answer, the dispatcher and the engine take no
step, and the block reset is excluded. -/
theorem faultedStateIsFinal : Obligations.FaultedStateIsFinal := by
  intro s t hf hholds hno hs
  show s.SameButPorts t
  rcases step_cases s with ⟨pid, i, hready, e⟩ | ⟨-, -, e⟩ | ⟨turn, ts, -, hturns, e⟩ <;>
    rw [e] at hs
  · obtain ⟨_, _, _, henc⟩ := hholds.encode_held hready
    exact (s.sameButPorts_setPort pid _).trans
      (execAccess_sameButPorts (s := s.release pid) (by simpa using hf) henc hs)
  · cases hs
    exact .refl s
  · have hturn : turn ≠ .reset := by simpa [hturns] using hno
    have hspent : s.SameButPorts { s with turns := ts } := rfl
    exact hspent.trans (stepTurn_sameButPorts hf hturn hs)

/-! ## The turn of the producer -/

/-- `t` is `s` but for what the producer reaches: BUSY, the mailbox slots, the palette with its lock, the
line buffer, the ports, and the latch with the op queue that a fault discards. Of these BUSY is not
cleared, C2P not filled, and the queue kept unless the block is faulted. -/
structure State.ProducerReaches (s t : State) : Prop where
  frame : t = { s with
    busy := t.busy
    p2c := t.p2c
    c2p := t.c2p
    palLocked := t.palLocked
    fault := t.fault
    opQueue := t.opQueue
    linebuf := t.linebuf
    palette := t.palette
    portP := t.portP
    portC := t.portC
    turns := t.turns }
  slot : t.c2p = s.c2p ∨ t.c2p = none
  queue : t.opQueue = s.opQueue ∨ t.opQueue = [] ∧ t.faulted = true
  busy : s.busy = true → t.busy = true

/-- A rule that completes leaves a state that the producer reaches, and it queues no events. -/
def Effect.Produces (s : State) : Effect → Prop
  | .done s' _ => s.ProducerReaches s'
  | .hold | .trap _ => True
  | .start _ _ => False

section Producer

variable {s t : State}

theorem State.ProducerReaches.refl (s : State) : s.ProducerReaches s :=
  ⟨rfl, .inl rfl, .inl rfl, id⟩

/-- The completion of the producer's access changes its port alone. -/
theorem State.ProducerReaches.complete (h : s.ProducerReaches t) (ans : Option Word) :
    s.ProducerReaches (t.complete .p ans) := by
  obtain ⟨hframe, hslot, hqueue, hbusy⟩ := h
  exact ⟨by rw [hframe]; rfl, hslot, hqueue, hbusy⟩

theorem State.producerReaches_holdPort (s : State) (x : Hold) :
    s.ProducerReaches (s.holdPort .p x) := ⟨rfl, .inl rfl, .inl rfl, id⟩

/-- A fault discards the op queue (60_exceptions.md R311). -/
theorem State.producerReaches_raiseFault (s : State) (tr : Trap) (port disp : Bool) :
    s.ProducerReaches (s.raiseFault tr port disp) :=
  ⟨rfl, .inl rfl, .inr ⟨rfl, s.raiseFault_faulted tr port disp⟩, id⟩

/-! ### The rules of the P-port (10_state.md R40) -/

theorem Effect.produces_of_check {c : Prop} [Decidable c] {tr : Trap} {e : Effect}
    (h : e.Produces s) : (if c then Effect.trap tr else e).Produces s := by
  split
  · trivial
  · exact h

theorem paletteWrite_produces (k : BitVec 4) (v : Word) : (paletteWrite k v s).Produces s :=
  Effect.produces_of_check ⟨rfl, .inl rfl, .inl rfl, id⟩

theorem paletteRead_produces (k : BitVec 4) : (paletteRead k s).Produces s := by
  unfold paletteRead
  split
  · trivial
  · exact .refl s

theorem linebufWriteP_produces (i : BitVec 10) (v : Word) : (linebufWriteP i v s).Produces s :=
  Effect.produces_of_check (Effect.produces_of_check ⟨rfl, .inl rfl, .inl rfl, id⟩)

theorem linebufReadP_produces (i : BitVec 10) : (linebufReadP i s).Produces s := by
  refine Effect.produces_of_check (Effect.produces_of_check ?_)
  unfold linebufRead
  split
  · trivial
  · exact .refl s

/-- The push sets BUSY or leaves it (42_mailbox.md R243). -/
theorem pushP2C_produces (v : Word) : (pushP2C v s).Produces s := by
  unfold pushP2C
  split
  · exact ⟨rfl, .inl rfl, .inl rfl, fun hbusy => by simp [hbusy]⟩
  · trivial

/-- The pop empties C2P (42_mailbox.md R247). -/
theorem popC2P_produces : (popC2P s).Produces s := by
  unfold popC2P
  split
  · exact ⟨rfl, .inr rfl, .inl rfl, id⟩
  · trivial

/-! ### The accesses of the P-port -/

theorem access_producerReaches {isRead : Bool} {i : Instr} {body : State → Effect}
    (hb : (body s).Produces s) : s.ProducerReaches (s.access .p isRead i body) := by
  rcases State.access_cases s .p isRead i body with
    ⟨-, e⟩ | ⟨-, -, e⟩ | ⟨-, -, ⟨s', v, hs, e⟩ | ⟨-, e⟩ | ⟨s', hs, e⟩ | ⟨s', q, r, hs, e⟩ |
      ⟨tr, -, e⟩⟩ <;> rw [e]
  · exact .refl s
  · exact (State.ProducerReaches.refl s).complete _
  · rw [hs] at hb
    exact State.ProducerReaches.complete hb _
  · exact s.producerReaches_holdPort _
  · rw [hs] at hb
    exact hb.elim
  · rw [hs] at hb
    exact hb.elim
  · exact (s.producerReaches_raiseFault ..).complete _

theorem statusRead_producerReaches (v : Word) : s.ProducerReaches (s.statusRead .p v) := by
  unfold State.statusRead
  split
  · exact .refl s
  · exact (State.ProducerReaches.refl s).complete _

theorem refuseAccess_producerReaches (a : Access) (e : DecodeError) :
    s.ProducerReaches (s.refuseAccess .p a e) := by
  unfold State.refuseAccess
  split
  · exact (State.ProducerReaches.refl s).complete _
  · exact (s.producerReaches_raiseFault ..).complete _

/-- Each access of the P-port; the descriptor of any other has PORT = 1 (30_encoding.md R100). -/
theorem execAccess_producerReaches {i : Instr} {width : Nat} {wr : Bool} {off : Half} {D : Word}
    (henc : encode i = .access width (descriptor false wr off) D) (he : exec i s = .next t) :
    s.ProducerReaches t := by
  have notC {wr' : Bool} {off' : Half} {v : Word}
      (hcode : encode i = .access 32 (descriptor true wr' off') v) : False := by
    injection hcode.symm.trans henc with _ hdesc
    have hport := congrArg (·.getLsbD 17) hdesc
    simp only [descriptor_port] at hport
    cases hport
  cases i
  case rPStatus | rPFault => cases he; exact statusRead_producerReaches _
  case wPStatus | wPMboxRx | wPFault | rPMboxTx | rPBusy =>
    cases he
    exact access_producerReaches (.refl s)
  case wPBusy v =>
    cases he
    refine access_producerReaches ?_
    show s.ProducerReaches _
    split
    · exact ⟨rfl, .inl rfl, .inl rfl, fun _ => rfl⟩
    · exact .refl s
  case wPMboxTx v => cases he; exact access_producerReaches (pushP2C_produces v)
  case rPMboxRx => cases he; exact access_producerReaches popC2P_produces
  case rPPalette k => cases he; exact access_producerReaches (paletteRead_produces k)
  case wPPalette k v => cases he; exact access_producerReaches (paletteWrite_produces k v)
  case rPLinebuf i => cases he; exact access_producerReaches (linebufReadP_produces i)
  case wPLinebuf i v => cases he; exact access_producerReaches (linebufWriteP_produces i v)
  case nop | drawLine | setIdle | setPixel | reservedCommand | swreset | slpin | slpout | noron |
      invoff | invon | dispoff | dispon | caset | raset | ramwr | madctl | idmoff | idmon | colmod =>
    cases henc
  all_goals exact (notC rfl).elim

/-- The turn of the producer. -/
theorem stepHost_producerReaches (hs : stepHost .p s = .next t) : s.ProducerReaches t := by
  rcases stepHost_cases .p s with ⟨-, e⟩ | ⟨a, s', hn, hcases⟩
  · rw [e] at hs
    cases hs
    exact .refl s
  · obtain ⟨-, rest, rfl⟩ := State.nextAccess_eq_some hn
    suffices h : (s.setPort .p { s.port .p with reqs := rest }).ProducerReaches t from
      ⟨h.frame, h.slot, h.queue, h.busy⟩
    rcases hcases with ⟨i, hdec, e⟩ | ⟨e', -, e⟩ <;> rw [e] at hs
    · exact execAccess_producerReaches (decodeOffset_eq_ok hdec).1 hs
    · cases hs
      exact refuseAccess_producerReaches a e'

end Producer

/-- Settles O48. The P-port's accesses run rules that reach only the producer's side and queue nothing;
a refused access and a failed check raise a fault, which discards the queue. -/
theorem producerCannotReachTheLink : Obligations.ProducerCannotReachTheLink := by
  intro s t ts hready hturns hs
  rw [step_of_turn hready hturns] at hs
  obtain ⟨hframe, hslot, hqueue, hbusy⟩ :=
    stepHost_producerReaches (s := { s with turns := ts }) (t := t) hs
  have kept {α : Type} (field : State → α) := congrArg field hframe
  exact ⟨kept (·.streamOpen), kept (·.initDone), kept (·.dispatchEn), kept (·.phase), kept (·.winCol),
    kept (·.winRow), kept (·.fillColor), kept (·.fillXY), kept (·.fillWH), kept (·.bl), kept (·.pins),
    kept (·.trace), kept (·.panel), hslot, hqueue, hbusy⟩

/-! ## The block reset -/

/-- Settles O56. The turn is the block reset's, whose state is written out. -/
theorem blockResetRestoresEverything : Obligations.BlockResetRestoresEverything := by
  intro s ts hready hturns
  rw [step_of_turn hready hturns]
  rfl

end Sys2Proof.Machine
end

section
namespace Sys2Proof.Machine

/-! ## Timing figures -/

/-! ### Sums over wire events (70_reset_and_hazards.md R360) -/

/-- The minimum settle time of one event, in milliseconds: a Wait's own (40_panellink.md R144). -/
def WireEvent.settleMs : WireEvent → Nat
  | .wait n => n
  | _ => 0

/-- The bytes that one event shifts out. -/
def WireEvent.spiBytes : WireEvent → Nat
  | .cmd _ => 1
  | .dat _ => 1
  | _ => 0

/-- The settle time of a list of events. -/
def wireMs (evs : List WireEvent) : Nat := (evs.map WireEvent.settleMs).sum

/-- The bytes of a list of events. -/
def wireBytes (evs : List WireEvent) : Nat := (evs.map WireEvent.spiBytes).sum

theorem settleMs_eq_wireMs (q : List QItem) : settleMs q = wireMs (q.map (·.ev)) := by
  induction q with
  | nil => rfl
  | cons x q ih =>
    rw [settleMs, ih]
    cases hev : x.ev <;> simp [wireMs, WireEvent.settleMs, hev]

theorem spiBytes_eq_wireBytes (q : List QItem) : spiBytes q = wireBytes (q.map (·.ev)) := by
  induction q with
  | nil => rfl
  | cons x q ih =>
    rw [spiBytes, ih]
    cases hev : x.ev <;> simp [wireBytes, WireEvent.spiBytes, hev]

@[simp] theorem wireMs_append (a b : List WireEvent) : wireMs (a ++ b) = wireMs a + wireMs b := by
  simp [wireMs]

@[simp] theorem wireBytes_append (a b : List WireEvent) :
    wireBytes (a ++ b) = wireBytes a + wireBytes b := by
  simp [wireBytes]

/-- No event of a window waits (40_panellink.md R150). -/
@[simp] theorem wireMs_windowWire (cs ce rs re : Half) : wireMs (windowWire cs ce rs re) = 0 := rfl

/-- CASET and RASET with four parameters each, and RAMWR (40_panellink.md R150). -/
@[simp] theorem wireBytes_windowWire (cs ce rs re : Half) :
    wireBytes (windowWire cs ce rs re) = 11 := rfl

/-- A stream frame never waits (40_panellink.md R143). -/
@[simp] theorem wireMs_streamWire (colors : List Half) : wireMs (streamWire colors) = 0 := by
  induction colors with
  | nil => rfl
  | cons c colors ih => simpa [streamWire, wireMs, WireEvent.settleMs] using ih

/-- Two bytes for each colour (40_panellink.md R143). -/
@[simp] theorem wireBytes_streamWire (colors : List Half) :
    wireBytes (streamWire colors) = 2 * colors.length := by
  induction colors with
  | nil => rfl
  | cons c colors ih =>
    have htwo : wireBytes (streamWire (c :: colors)) = 1 + (1 + wireBytes (streamWire colors)) := by
      simp [streamWire, wireBytes, WireEvent.spiBytes]
    rw [htwo, ih, List.length_cons]
    omega

/-! ### The figures of an issued access -/

/-- An issued access queues exactly its events, so their sums are its figures. -/
theorem IssuesC.takesC {i : Instr} {s s' : State} {evs stream : List WireEvent} {inits : Bool}
    {ms bytes : Nat} (h : IssuesC i s s' evs stream inits)
    (hms : wireMs (evs ++ stream) = ms) (hbytes : wireBytes (evs ++ stream) = bytes) :
    TakesC i s ms bytes := by
  obtain ⟨q, last, hmarks, -, -, -, hexec⟩ := h
  have hevents : (q ++ [last]).map (·.ev) = evs ++ stream := by
    simpa [Function.comp_def, streamMarks_fst] using congrArg (List.map (·.1)) hmarks
  exact ⟨_, q ++ [last], hexec, rfl, by rw [settleMs_eq_wireMs, hevents, hms],
    by rw [spiBytes_eq_wireBytes, hevents, hbytes]⟩

/-- A window alone. -/
theorem IssuesC.takesC_window {i : Instr} {s s' : State} {cs ce rs re : Half}
    (h : IssuesC i s s' (windowWire cs ce rs re)) : TakesC i s 0 11 :=
  h.takesC (by simp) (by simp)

/-- A window and the stream of its colours. -/
theorem IssuesC.takesC_windowStream {i : Instr} {s s' : State} {cs ce rs re : Half}
    {colors : List Half} (h : IssuesC i s s' (windowWire cs ce rs re) (streamWire colors)) :
    TakesC i s 0 (11 + 2 * colors.length) :=
  h.takesC (by simp) (by simp)

/-- A word is its two 16-bit fields (30_encoding.md R109). -/
theorem append_halves (v : Word) : v.extractLsb' 16 16 ++ v.extractLsb' 0 16 = v := by
  apply BitVec.eq_of_toNat_eq
  have := v.isLt
  rw [append_toNat, field_toNat, field_toNat]
  omega

/-- A row whose elements all map has its colours (40_panellink.md R170). -/
theorem exists_rowColors {s : State} (hmaps : ∀ i, i < s.cfg.lineW → s.Maps i) :
    ∃ colors : List Half, colors.length = s.cfg.lineW ∧
      ∀ i, i < s.cfg.lineW → ∃ e, s.linebuf.read i = some e ∧ e.extractLsb' 4 4 = 0 ∧
        s.palette.read (e.extractLsb' 0 4).toNat = colors[i]? := by
  have hentry (i : Fin s.cfg.lineW) : ∃ c e, s.linebuf.read i = some e ∧ e.extractLsb' 4 4 = 0 ∧
      s.palette.read (e.extractLsb' 0 4).toNat = some c := by
    obtain ⟨e, c, h⟩ := hmaps i i.isLt
    exact ⟨c, e, h⟩
  choose color hcolor using hentry
  refine ⟨List.ofFn color, by simp, fun i hi => ?_⟩
  simpa [hi] using hcolor ⟨i, hi⟩

/-- Settles O60. Each operation's events are those that it is issued with, and the figures are their
sums. -/
theorem timingFigures : Obligations.TimingFigures := by
  intro s v howned
  have stream := pixelStream s v howned
  refine ⟨(backlightRegister s v howned.1).2.takesC rfl rfl, fun hopen => ?inStream,
    fun hclosed => ?outside⟩
  case inStream =>
    obtain ⟨-, hpixel, hend⟩ := stream.2 hopen
    exact ⟨hpixel.takesC rfl rfl, hend.takesC rfl rfl⟩
  case outside =>
    obtain ⟨hinvert, hidle, hpower⟩ := toggleOperations s v howned hclosed
    refine ⟨(initializeQueuesItsSequence s v howned hclosed).takesC ?initMs ?initBytes,
      (stream.1 hclosed).1.takesC rfl rfl, hinvert.takesC rfl rfl, hidle.takesC rfl rfl,
      hpower.takesC ?powerMs ?powerBytes, fun cs ce rs re hcol hrow hc hr hw hh => ?window,
      fun hw hh => ?address, fun x y w h hxy hwh hw hh hright hbottom => ?fill,
      fun hbusy hrow hmaps => ?drawLine⟩
    case initMs => simp [wireMs, windowWire, WireEvent.settleMs]
    case initBytes => simp [wireBytes, windowWire, WireEvent.spiBytes]
    case powerMs =>
      cases v.getLsbD 0 with
      | false => rfl
      | true =>
        -- With no settle time there is no Wait, and the sum is the same.
        rcases Nat.eq_zero_or_pos s.cfg.slpinSettleMs with hsettle | hsettle <;>
          simp [wireMs, WireEvent.settleMs, hsettle]
    case powerBytes =>
      cases v.getLsbD 0 with
      | false => rfl
      | true =>
        rcases Nat.eq_zero_or_pos s.cfg.slpinSettleMs with hsettle | hsettle <;>
          simp [wireBytes, WireEvent.spiBytes, hsettle]
    case window =>
      obtain ⟨happly, -⟩ := windowOperations s v cs ce rs re _ _ howned hclosed hcol hrow
        (append_halves v).symm
      exact (happly hc hr hw hh).takesC_window
    case address =>
      obtain ⟨-, -, -, haddress, -⟩ := windowOperations s v _ _ _ _ _ _ howned hclosed
        (append_halves s.winCol).symm (append_halves s.winRow).symm (append_halves v).symm
      exact (haddress hw hh).takesC_window
    case fill =>
      obtain ⟨hinside, -⟩ := fillOperation s v x y w h _ howned hclosed hxy hwh rfl
      simpa using (hinside hw hh hright hbottom).takesC_windowStream
    case drawLine =>
      obtain ⟨colors, hlen, hcolors⟩ := exists_rowColors hmaps
      rw [← hlen]
      exact (drawLineStreamsTheMappedRow s v colors howned hclosed hbusy hrow hlen
        hcolors).takesC_windowStream

end Sys2Proof.Machine
end

section
namespace Sys2Proof.Machine

/-! ## The state after reset -/

/-- Every choice of the OPEN parameters is brought inside the bounds of 00_scope.md R7 (log 6). -/
theorem ofChoice_legal (c : Config.OpenChoice) : (Config.ofChoice c).Legal := by
  have hrows : c.rows % (1 + c.height % 65536) < 1 + c.height % 65536 := Nat.mod_lt _ (by omega)
  simp only [Params.Legal, Config.ofChoice, Config.lineWidth]
  omega

/-- A block reset leaves the panel alone and gives everything else a sound value
(70_reset_and_hazards.md R340, R341). -/
theorem State.blockReset_inv {s : State} (hpanel : s.PanelSound) (hgram : s.panel.GramWf) :
    s.blockReset.Inv where
  stores := State.blockReset_storesWf hgram
  halted := State.halted_of_unfaulted s.blockReset_faulted
  latch := ⟨by simp [FaultLatch.none], fun _ => rfl⟩
  holds := ⟨by simp [Port.reset], by simp [Port.reset]⟩
  phase := ⟨by simp, by simp⟩
  engine := ⟨rfl, fun _ => rfl⟩
  regs := ⟨by simp, by simp [highHalf]⟩
  panel := hpanel

/-- A block reset disables the dispatcher, so neither BUSY nor the stream is bound to a command. -/
theorem State.blockReset_busyExact (s : State) : s.blockReset.BusyExact := fun _ hen => by simp at hen

theorem State.blockReset_streamPaired (s : State) : s.blockReset.StreamPaired := fun _ hen => by
  simp at hen

/-- The reset state is a fixed point of the block reset. -/
theorem State.blockReset_reset : State.reset.blockReset = State.reset := rfl

theorem FaultLatch.none_word : FaultLatch.none.word = 0 := by decide

/-- What the status registers and the fault latch read after reset (70_reset_and_hazards.md R340). -/
theorem State.resetWith_words (cfg : Params) : (State.resetWith cfg).pStatus = 0x00000008 ∧
    (State.resetWith cfg).cStatus = 0 ∧ (State.resetWith cfg).fault.word = 0 :=
  ⟨by simp [State.pStatus, State.faulted, State.sendReady, State.resetWith, FaultLatch.none],
    by simp [State.cStatus, State.faulted, State.linkBusy, State.resetWith, FaultLatch.none],
    FaultLatch.none_word⟩

/-- Settles O55. The state after reset is a block reset of itself, in front of a panel of which nothing is
known. -/
theorem resetIsSound : Obligations.ResetIsSound := by
  refine ⟨⟨?inv, ?busy, ?paired, ofChoice_legal _⟩, State.resetWith_words, fun s hpanel hgram =>
    ⟨State.blockReset_inv hpanel hgram, s.blockReset_busyExact, s.blockReset_streamPaired,
      State.resetWith_words s.cfg⟩⟩
  case inv =>
    have hunknown : State.reset.panel.known = none := rfl
    exact State.blockReset_reset ▸ State.blockReset_inv (s := State.reset)
      (fun r hr => by simp [hunknown] at hr) (fun r hr => by simp [hunknown] at hr)
  case busy => exact State.blockReset_reset ▸ State.reset.blockReset_busyExact
  case paired => exact State.blockReset_reset ▸ State.reset.blockReset_streamPaired

end Sys2Proof.Machine
end
